-- ==== Sys2Proof/Word.lean ====
section
/-! DEFINITION. The character type of the links and the plain arithmetic the book's conventions fix (00_scope.md, Conventions): all quantities are whole numbers. -/

namespace Sys2Proof

/-- The eight data bits of a link character (R181). -/
abbrev Byte := BitVec 8

/-- A 16-bit register: the check of a frame (R184). -/
abbrev Word16 := BitVec 16

/-- ⌈n / d⌉, n divided by d and rounded up (00_scope.md, Rounding and remainders). -/
abbrev ceilDiv (n d : Nat) : Nat := (n + d - 1) / d

/-- n / d with a value exactly halfway rounded to the greater (00_scope.md, "Round-half-up"). -/
abbrev roundHalfUp (n d : Nat) : Nat := (2 * n + d) / (2 * d)

/-- The magnitude of a difference. -/
abbrev absDiff (a b : Nat) : Nat := if a ≤ b then b - a else a - b

end Sys2Proof
end

