-- ==== Sys2Proof/Syntax.lean ====
section
/-! DEFINITION. The commands of the PB6125: one constructor of Instr per row of spec/opcode_table.json, with its operands. A frame's operands are its tag, its link where the command is of both links (R185 Table 40), and its body, decoded against its layout or malformed (R185, R193). -/

namespace Sys2Proof

/-- The two links (11_planning_and_console_links.md). -/
inductive Link where
  | planning
  | console
  deriving DecidableEq, Repr

/-- The direction of a beam setting (Table 4). -/
inductive Direction where
  | forward
  | reverse
  deriving DecidableEq, Repr, Inhabited

/-- A setting: slew step and direction together (00_scope.md Table 2). -/
structure Setting where
  slew : Int
  dir  : Direction
  deriving DecidableEq, Repr, Inhabited

/-- Slew 0 FORWARD, which every antenna admits (R2). -/
def Setting.rest : Setting := { slew := 0, dir := .forward }

/-- A weekday set: flag 0 for Monday through flag 6 for Sunday (R1, R192). -/
abbrev Weekdays := Vector Bool 7

/-- A booking record as the station computer supplies it: every field of Table 4 but the three the table sets itself (R1). -/
structure Offered where
  number      : Nat
  season      : Nat
  transmitter : Nat
  antenna     : Nat
  alternate   : Option Nat
  setting     : Setting
  frequency   : Nat
  power       : Nat
  start       : Nat
  duration    : Nat
  days        : Weekdays
  firstDay    : Option Nat
  lastDay     : Option Nat
  label       : List Nat
  deriving DecidableEq, Repr, Inhabited

/-- A season entry: id and first day (R36). -/
structure SeasonEntry where
  id       : Nat
  firstDay : Nat
  deriving DecidableEq, Repr, Inhabited

/-- A day number and a second of day (R32). -/
structure ClockValue where
  day    : Nat
  second : Nat
  deriving DecidableEq, Repr, Inhabited

/-- The hall record (R170 Table 36); VSWRs in tenths. -/
structure HallRecord where
  nearlyFull   : Nat
  guard        : Nat
  horizon      : Nat
  margin       : Nat
  travel       : Nat
  tuneGrace    : Nat
  floor        : Nat
  tripVswr     : Nat
  warnVswr     : Nat
  recycleDelay : Nat
  retryLimit   : Nat
  cleanRun     : Nat
  deriving DecidableEq, Repr, Inhabited

/-- The configuration part of a transmitter record (R93 Table 19). -/
structure TxConfig where
  present  : Bool
  minFreq  : Nat
  maxFreq  : Nat
  rated    : Nat
  tuneBase : Nat
  tuneRate : Nat
  rfDown   : Nat
  deriving DecidableEq, Repr, Inhabited

/-- A band window, low to high kHz inclusive (R81). -/
structure Band where
  low  : Nat
  high : Nat
  deriving DecidableEq, Repr, Inhabited

/-- The configuration part of an antenna record (R81 Table 17). -/
structure AntConfig where
  present     : Bool
  bearing     : Nat
  rating      : Nat
  windows     : List Band
  maxSlew     : Nat
  reversible  : Bool
  settingTime : Nat
  deriving DecidableEq, Repr, Inhabited

/-- The body of a frame after its tag: the fields of its layout, or a body that does not decode (R185 second case, R193). -/
inductive Body (α : Type) where
  | fields (a : α)
  | malformed
  deriving DecidableEq, Repr

/-- How a SET CLOCK frame was sent (R32): to this hall, with a tag to answer, or to address 0. -/
inductive Addressing where
  | addressed (tag : Byte)
  | broadcast
  deriving DecidableEq, Repr

/-- WITHDRAW (R20): number and NOW option. -/
structure WithdrawArgs where
  number : Nat
  now    : Bool
  deriving DecidableEq, Repr

/-- LIST (R22): starting number and up to three selectors. -/
structure ListArgs where
  start       : Nat
  transmitter : Option Nat
  antenna     : Option Nat
  season      : Option Nat
  deriving DecidableEq, Repr

/-- CONFIGURE TRANSMITTER (R93). -/
structure TxWrite where
  transmitter : Nat
  config      : TxConfig
  deriving DecidableEq, Repr

/-- CONFIGURE ANTENNA (R81). -/
structure AntWrite where
  antenna : Nat
  config  : AntConfig
  deriving DecidableEq, Repr

/-- CLEAR STUCK (R91): row and column. -/
structure RowCol where
  row : Nat
  col : Nat
  deriving DecidableEq, Repr, Inhabited

/-- LOCAL ROUTE (R165): transmitter and a column, or no column. -/
structure LocalRouteArgs where
  transmitter : Nat
  column      : Option Nat
  deriving DecidableEq, Repr

/-- LOCAL TUNE and LOCAL RF ON (R165): transmitter and a frequency or a power. -/
structure LocalArgs where
  transmitter : Nat
  value       : Nat
  deriving DecidableEq, Repr

/-- Why a frame is discarded without response (R182, R183). -/
inductive Discard where
  | framing      -- a character with a framing error or an overrun
  | badLength    -- a length below 2 or above 250
  | badCheck     -- the check does not match (R184)
  | notBroadcast -- a broadcast other than a valid SET CLOCK
  | outstanding  -- complete while a request of the link is outstanding
  | marked (address : Nat)  -- a marked character arrives while a frame is being received; it carries this address (R182)
  deriving DecidableEq, Repr

/-- A contact reading (R65 Table 14). -/
inductive Reading where
  | opened
  | closed
  | mid
  deriving DecidableEq, Repr, Inhabited

/-- The three indications of a status report (R96). -/
structure Indications where
  rfPresent : Bool
  fault     : Bool
  ready     : Bool
  deriving DecidableEq, Repr, Inhabited

/-- What the part finds at a start-up (R177, R181): the level of the hall address lines, whether the retention domain passes its test (R176), and the seconds the clock counter counted while the part was down (R42). -/
structure StartInputs where
  address : Nat
  intact  : Bool
  counted : Nat
  deriving DecidableEq, Repr

/-- The commands, one constructor per row of spec/opcode_table.json. -/
inductive Instr where
  | enter (tag : Byte) (body : Body Offered)
  | loadBlock (tag : Byte) (body : Body (List Offered))
  | amend (tag : Byte) (body : Body Offered)
  | withdraw (tag : Byte) (body : Body WithdrawArgs)
  | fetch (link : Link) (tag : Byte) (body : Body Nat)
  | list (tag : Byte) (body : Body ListArgs)
  | calendarAdd (tag : Byte) (body : Body SeasonEntry)
  | calendarRemove (tag : Byte) (body : Body Nat)
  | calendarRead (tag : Byte) (body : Body Unit)
  | setClock (dest : Addressing) (body : Body ClockValue)
  | readCues (tag : Byte) (body : Body Nat)
  | readTransmitter (link : Link) (tag : Byte) (body : Body Nat)
  | readAntenna (link : Link) (tag : Byte) (body : Body Nat)
  | readRoutes (link : Link) (tag : Byte) (body : Body Nat)
  | configureHall (tag : Byte) (body : Body HallRecord)
  | commission (tag : Byte) (body : Body Unit)
  | reconfigure (tag : Byte) (body : Body Unit)
  | configureTransmitter (tag : Byte) (body : Body TxWrite)
  | configureAntenna (tag : Byte) (body : Body AntWrite)
  | setAlarmMask (tag : Byte) (body : Body (BitVec 32))
  | poll (link : Link) (tag : Byte) (body : Body Unit)
  | setLinkRate (link : Link) (tag : Byte) (body : Body Nat)
  | lockAntenna (tag : Byte) (body : Body Nat)
  | freeAntenna (tag : Byte) (body : Body Nat)
  | clearSuspect (tag : Byte) (body : Body Nat)
  | clearStuck (tag : Byte) (body : Body RowCol)
  | takeLocal (tag : Byte) (body : Body Nat)
  | giveRemote (tag : Byte) (body : Body Nat)
  | localRoute (tag : Byte) (body : Body LocalRouteArgs)
  | localTune (tag : Byte) (body : Body LocalArgs)
  | localRfOn (tag : Byte) (body : Body LocalArgs)
  | localRfOff (tag : Byte) (body : Body Nat)
  | clearHeld (tag : Byte) (body : Body Nat)
  | takeAmendment (tag : Byte) (body : Body Nat)
  | dropAmendment (tag : Byte) (body : Body Nat)
  | hallStop (tag : Byte) (body : Body Unit)
  | hallResume (tag : Byte) (body : Body Unit)
  | ackAlarm (tag : Byte) (body : Body Unit)
  | unknownCommand (link : Link) (code : Byte) (tag : Byte)
  | characterGapTimeout (link : Link)
  | linkBreak (link : Link)
  | responseSent (link : Link)
  | secondPulse (time : Nat)
  | pulseWatchExpiry
  | internalAdvance
  | contactReport (row col : Nat) (reading : Reading)
  | moveTimeout (row col : Nat)
  | surveyLimit
  | settingCompletionReport (antenna : Nat) (setting : Setting)
  | settingTimeout (antenna : Nat)
  | statusReport (transmitter : Nat) (indications : Indications)
  | tuneComplete (transmitter frequency : Nat)
  | tuneTimeout (transmitter : Nat)
  | rfUpTimeout (transmitter : Nat)
  | rfDownTimeout (transmitter : Nat)
  | detectorConversion (transmitter : Nat) (vf vr : BitVec 10)
  | recycleTimerExpiry (transmitter : Nat)
  | cleanRunExpiry (transmitter : Nat)
  | powerUp (inputs : StartInputs)
  | restartAsserted
  | restartReleased (inputs : StartInputs)
  | restartHeld5s (address : Nat)
  | frameDiscard (link : Link) (cause : Discard)
  | mainSupplyLoss
  deriving DecidableEq, Repr

end Sys2Proof
end

