-- ==== Sys2Proof/Config.lean ====
section
/-! DEFINITION. The numbers the book fixes for every hall, the defaults of a cold start, and the values it leaves open (free values). -/

namespace Sys2Proof.Config

/-- Transmitters, the matrix rows (00_scope.md, Numbering of hall equipment). -/
abbrev rows : Nat := 12
/-- Antennas with the test load, the matrix columns (00_scope.md). -/
abbrev columns : Nat := 25
/-- The test load's column (00_scope.md). -/
abbrev testLoad : Nat := 24
/-- Records the booking table holds at most (R4). -/
abbrev tableCapacity : Nat := 1024
/-- Cues the cue list holds at most (R44). -/
abbrev cueCapacity : Nat := 192
/-- Entries the season calendar holds at most (R36). -/
abbrev calendarCapacity : Nat := 4
/-- Moves the drive queue holds at most (R70). -/
abbrev queueCapacity : Nat := 16
/-- Drive slots (R72). -/
abbrev driveSlots : Nat := 4
/-- Seconds of a day (00_scope.md Table 2, absolute second). -/
abbrev daySeconds : Nat := 86400
/-- The last day number (00_scope.md, Days and time). -/
abbrev lastDay : Nat := 65535
/-- The longest lead of a PREPARE (R60). -/
abbrev longestLead : Nat := 900
/-- The largest lateness a record holds (R43, R112). -/
abbrev largestLateness : Nat := 65535
/-- The RF-up watch, in milliseconds (R99). -/
abbrev rfUpLimit : Nat := 10000
/-- The pulse watch, in milliseconds (R28). -/
abbrev pulseLimit : Nat := 2000
/-- The survey limit, in milliseconds (R89). -/
abbrev surveyLimit : Nat := 2000
/-- How long the restart input is held for a cold start, in milliseconds (R177). -/
abbrev coldHold : Nat := 5000
/-- The arc threshold (R135). -/
abbrev arcThreshold : Nat := 921
/-- The divisor of both links at every start-up (R181). -/
abbrev startDivisor : Nat := 31
/-- Numbers one LIST response returns at most (R22). -/
abbrev listLimit : Nat := 60
/-- Cues one READ CUES response returns at most (R55). -/
abbrev cuesPerRead : Nat := 24
/-- Characters a response's length may count (R193). -/
abbrev longestLength : Nat := 250
/-- Reports and due cues one command takes at most before it ends (log 4); what is left is taken with the next command. -/
@[irreducible] def settleLimit : Nat := 65536

/-- The hall record after a cold start (R170 Table 36). -/
def hallDefaults : HallRecord where
  nearlyFull := 32
  guard := 10
  horizon := 120
  margin := 5
  travel := 6
  tuneGrace := 30
  floor := 40
  tripVswr := 18
  warnVswr := 14
  recycleDelay := 10
  retryLimit := 3
  cleanRun := 5

/-- A transmitter record's configuration after a cold start (R93 Table 19). -/
def txDefaults : TxConfig where
  present := false
  minFreq := 2300
  maxFreq := 26100
  rated := 10
  tuneBase := 5
  tuneRate := 0
  rfDown := 1

/-- An antenna record's configuration after a cold start (R81 Table 17). -/
def antDefaults : AntConfig where
  present := false
  bearing := 0
  rating := 10
  windows := [{ low := 2300, high := 26100 }]
  maxSlew := 0
  reversible := false
  settingTime := 1

/-- FREE VALUE (log 16): whether READ TRANSMITTER rounds a part of a second of "seconds left" up or down, which the book does not state. -/
opaque freeSeconds : Nat → BitVec 16

/-- FREE VALUE (log 57): the power, by transmitter and time of the timebase, of a recycle's RF ON when there is no commanded power, which the book does not name (R140). -/
opaque freePower : Nat → Nat → Nat

end Sys2Proof.Config
end

