-- ==== Sys2Proof/WellFormed.lean ====
section
/-! DEFINITION. Which terms of Instr a link, a hall line or a timer of the part can send: every field within what its encoding carries (R66, R96, R134, R181, R192). A well-formed term may still be refused by its command's own checks. -/

namespace Sys2Proof

/-- A number that a width in bytes carries (R192). -/
def fitsBytes (n v : Nat) : Bool := v < 256 ^ n

/-- A number whose all-ones value stands for its absence (R192). -/
def fitsAbsent (n : Nat) (v : Option Nat) : Bool := v.all (· < 256 ^ n - 1)

/-- A slew step that a setting byte carries (R192, R193). -/
def Setting.wf (s : Setting) : Bool := -6 ≤ s.slew && s.slew ≤ 6

/-- A booking record in offered form carries these fields (Table 47). -/
def Offered.wf (b : Offered) : Bool :=
  fitsBytes 2 b.number && fitsBytes 1 b.season && fitsBytes 1 b.transmitter && fitsBytes 1 b.antenna &&
  fitsAbsent 1 b.alternate && b.setting.wf && fitsBytes 2 b.frequency && fitsBytes 2 b.power && fitsBytes 2 b.start &&
  fitsBytes 2 b.duration && b.firstDay.all (fitsBytes 2) && b.lastDay.all (fitsBytes 2) &&
  fitsBytes 1 b.label.length && b.label.all (fitsBytes 1)

/-- CONFIGURE HALL carries these fields (Table 46). -/
def HallRecord.wf (r : HallRecord) : Bool :=
  fitsBytes 2 r.nearlyFull && fitsBytes 1 r.guard && fitsBytes 2 r.horizon && fitsBytes 1 r.margin &&
  fitsBytes 1 r.travel && fitsBytes 1 r.tuneGrace && fitsBytes 1 r.floor && fitsBytes 1 r.tripVswr &&
  fitsBytes 1 r.warnVswr && fitsBytes 1 r.recycleDelay && fitsBytes 1 r.retryLimit && fitsBytes 1 r.cleanRun

/-- CONFIGURE TRANSMITTER carries these fields (Table 46). -/
def TxWrite.wf (w : TxWrite) : Bool :=
  fitsBytes 1 w.transmitter && fitsBytes 2 w.config.minFreq && fitsBytes 2 w.config.maxFreq &&
  fitsBytes 2 w.config.rated && fitsBytes 1 w.config.tuneBase && fitsBytes 2 w.config.tuneRate &&
  fitsBytes 1 w.config.rfDown

/-- CONFIGURE ANTENNA carries these fields (Table 46). -/
def AntWrite.wf (w : AntWrite) : Bool :=
  fitsBytes 1 w.antenna && fitsBytes 2 w.config.bearing && fitsBytes 2 w.config.rating &&
  fitsBytes 1 w.config.maxSlew && fitsBytes 1 w.config.settingTime && fitsBytes 1 w.config.windows.length &&
  w.config.windows.all fun b => fitsBytes 2 b.low && fitsBytes 2 b.high

/-- LIST carries these fields; a season id that is absent travels as 0 (R192). -/
def ListArgs.wf (l : ListArgs) : Bool :=
  fitsBytes 2 l.start && fitsAbsent 1 l.transmitter && fitsAbsent 1 l.antenna &&
  l.season.all fun s => 1 ≤ s && fitsBytes 1 s

/-- The fields of a body, when it decodes. -/
def Body.wf (ok : α → Bool) : Body α → Bool
  | .fields a => ok a
  | .malformed => true

/-- The codes of a link's commands (Table 40, R192). -/
def isCommandCode (link : Link) (code : Nat) : Bool :=
  match link with
  | .planning => 1 ≤ code && code ≤ 22
  | .console => code == 5 || (12 ≤ code && code ≤ 14) || (21 ≤ code && code ≤ 38)

/-- What a start-up reads: five address lines (R181). -/
def StartInputs.wf (i : StartInputs) : Bool := i.address < 32

/-- The check on every term of Instr. -/
def Instr.wf : Instr → Bool
  | .enter _ b | .amend _ b => b.wf Offered.wf
  | .loadBlock _ b => b.wf fun l => fitsBytes 1 l.length && l.all Offered.wf
  | .withdraw _ b => b.wf fun w => fitsBytes 2 w.number
  | .fetch _ _ b => b.wf (fitsBytes 2)
  | .list _ b => b.wf ListArgs.wf
  | .calendarAdd _ b => b.wf fun s => fitsBytes 1 s.id && fitsBytes 2 s.firstDay
  | .calendarRemove _ b => b.wf (fitsBytes 1)
  | .setClock _ b => b.wf fun v => fitsBytes 2 v.day && fitsBytes 3 v.second
  | .readCues _ b => b.wf (fitsBytes 1)
  | .readTransmitter _ _ b | .readAntenna _ _ b => b.wf (fitsBytes 1)
  | .readRoutes _ _ b => b.wf (fitsBytes 2)
  | .configureHall _ b => b.wf HallRecord.wf
  | .configureTransmitter _ b => b.wf TxWrite.wf
  | .configureAntenna _ b => b.wf AntWrite.wf
  | .setLinkRate _ _ b => b.wf (fitsBytes 2)
  | .lockAntenna _ b | .freeAntenna _ b | .clearSuspect _ b => b.wf (fitsBytes 1)
  | .clearStuck _ b => b.wf fun x => fitsBytes 1 x.row && fitsBytes 1 x.col
  | .takeLocal _ b | .giveRemote _ b | .localRfOff _ b | .clearHeld _ b | .takeAmendment _ b | .dropAmendment _ b =>
    b.wf (fitsBytes 1)
  | .localRoute _ b => b.wf fun r => fitsBytes 1 r.transmitter && fitsAbsent 1 r.column
  | .localTune _ b | .localRfOn _ b => b.wf fun r => fitsBytes 1 r.transmitter && fitsBytes 2 r.value
  | .unknownCommand link code _ => !isCommandCode link code.toNat
  | .settingCompletionReport _ s => s.wf
  | .tuneComplete t _ | .statusReport t _ => t < Config.rows
  | .tuneTimeout t | .rfUpTimeout t | .rfDownTimeout t | .recycleTimerExpiry t | .cleanRunExpiry t => t < Config.rows
  | .detectorConversion t _ _ => t < Config.rows
  | .moveTimeout r c => r < Config.rows && c < Config.columns
  | .settingTimeout a => a < Config.columns
  | .powerUp i | .restartReleased i => i.wf
  | .restartHeld5s address => address < 32
  | .frameDiscard link (.marked address) => link == .planning && address < 32
  | .frameDiscard link cause => !(link == .console && cause == .notBroadcast)
  | .calendarRead .. | .commission .. | .reconfigure .. | .setAlarmMask .. | .poll .. | .hallStop .. | .hallResume ..
  | .ackAlarm .. | .characterGapTimeout .. | .linkBreak .. | .responseSent .. | .secondPulse .. | .pulseWatchExpiry
  | .internalAdvance | .contactReport .. | .surveyLimit | .restartAsserted | .mainSupplyLoss => true

end Sys2Proof
end

