-- ==== Sys2Proof/Decode.lean ====
section
/-! DEFINITION. The command that a word spells by the bits of spec/opcode_table.json: the table gives no row any bits (98_reader.md, n_rows_with_fixed 0), so no word spells a command. The characters of a frame are decoded in Machine/Operands.lean. -/

namespace Sys2Proof

/-- No row of the table has bits. -/
def decodeTableWord (_nbits _w : Nat) : Option Instr := none

end Sys2Proof
end

