-- ==== Sys2Proof/Machine/State.lean ====
section
/-! DEFINITION. The state of the PB6125: every piece of state the book gives it, as plain data, and its value right after a cold start. -/

namespace Sys2Proof.Machine

/-- Event kinds in the order of Table 43, so that the k-th has code k (R192). -/
inductive EventKind where
  | trip | reflectionWarn | held | rfFault | suspect | settingFault | locked | stuck | missed | cut | late | leadClamped
  | substituted | amendmentParked | amendmentApplied | amendmentDropped | cuesShort | hallStopped | seasonTurned | retired
  | tableNearlyFull | holdover | clockStep | restarted
  deriving DecidableEq, Repr, Inhabited

/-- A set of event kinds: bit k - 1 stands for the kind of code k (R192). -/
abbrev KindSet := BitVec 24

/-- Result codes in the order of Table 42, so that DONE is 0 (R192). -/
inductive ResultCode where
  | done | parked | format | unknownCommand | mode | season | range | band | power | setting | exists | unknown
  | conflictTx | conflictAnt | conflictFreq | full | past | inUse | busy | locked | blocked | interlock
  deriving DecidableEq, Repr, Inhabited

/-- Last outcomes in the order of Table 4 (R1, R192). -/
inductive RunOutcome where
  | none | aired | late | substituted | missed | cut | tookLocal
  deriving DecidableEq, Repr, Inhabited

/-- The state of a booking record (R1). -/
inductive BookingState where
  | active | withdrawing
  deriving DecidableEq, Repr, Inhabited

/-- A booking record: the offered fields and the three the table sets itself (R1 Table 4). -/
structure Booking where
  fields  : Offered
  state   : BookingState
  lastRun : Option Nat
  outcome : RunOutcome
  deriving DecidableEq, Repr, Inhabited

/-- The booking table (R4, R5): records in ascending number, and the nearly-full arming. -/
structure Table where
  records : List Booking
  armed   : Bool
  deriving DecidableEq, Repr, Inhabited

/-- The status of the station clock (R25). -/
inductive ClockStatus where
  | unset | locked | holdover
  deriving DecidableEq, Repr, Inhabited

/-- The station clock with its live fields (R25, R42). -/
structure Clock where
  day         : Nat
  second      : Nat
  status      : ClockStatus
  everSet     : Bool
  setting     : Option ClockValue
  lastPulse   : Nat
  lastAdvance : Nat
  watch       : Option Nat
  deriving DecidableEq, Repr, Inhabited

/-- The season calendar in first-day order, and the live season of today (R36, R37). -/
structure Calendar where
  entries : List SeasonEntry
  live    : Option Nat
  deriving DecidableEq, Repr, Inhabited

/-- Kinds of cue, in their order at equal due times (R44). -/
inductive CueKind where
  | stop | prepare | start
  deriving DecidableEq, Repr, Inhabited

/-- The event kinds already posted for an occurrence (R43, R112). -/
structure Said where
  late    : Bool
  clamped : Bool
  deriving DecidableEq, Repr, Inhabited

/-- A cue (R43 Table 10). -/
structure Cue where
  kind        : CueKind
  due         : Nat
  transmitter : Nat
  booking     : Nat
  day         : Nat
  lead        : Nat
  lateness    : Nat
  clamped     : Bool
  carry       : Bool
  said        : Said
  deriving DecidableEq, Repr, Inhabited

/-- An occurrence of a booking: its number and day (R3). -/
structure Occurrence where
  booking : Nat
  day     : Nat
  deriving DecidableEq, Repr, Inhabited

/-- The lookahead unit's own state (R43, R46, R53). -/
structure Lookahead where
  cues    : List Cue
  readmit : List Occurrence
  short   : Bool
  deriving DecidableEq, Repr, Inhabited

/-- The state of a crosspoint (R65 Table 14). -/
inductive XpState where
  | opened | closing | closed | opening | stuck
  deriving DecidableEq, Repr, Inhabited

/-- Who asked for a move (R70). -/
inductive Asker where
  | route (transmitter : Nat)
  | localRoute (transmitter : Nat)
  | lock
  | startup
  | clearStuck
  deriving DecidableEq, Repr, Inhabited

/-- A move of the drive queue (R70). -/
structure Move where
  row    : Nat
  col    : Nat
  close  : Bool
  safety : Bool
  askers : List Asker
  deriving DecidableEq, Repr, Inhabited

/-- A move that holds a drive slot, with the limit of its timer (R73). -/
structure Slot where
  move  : Move
  limit : Nat
  deriving DecidableEq, Repr, Inhabited

/-- A route request or a local route in progress (R78, R80). -/
structure RouteRequest where
  column  : Option Nat
  opens   : List RowCol
  placed  : Bool
  isLocal : Bool
  deriving DecidableEq, Repr, Inhabited

/-- The lock state of an antenna (R82). -/
inductive LockState where
  | free | pending | locked
  deriving DecidableEq, Repr, Inhabited

/-- A setting change in progress: target, limit of the setting timer, and the transmitter it was sent for (R84, R85; log 27). -/
structure SettingChange where
  target : Setting
  limit  : Nat
  sentBy : Option Nat
  deriving DecidableEq, Repr, Inhabited

/-- The live part of an antenna record (R82); no setting is UNKNOWN, no change is SETTLED. -/
structure Antenna where
  setting : Option Setting
  change  : Option SettingChange
  wanted  : Option Setting
  lock    : LockState
  suspect : Bool
  deriving DecidableEq, Repr, Inhabited

/-- The survey of a start-up (R89): crosspoints not yet reported, its limit, whether the start-up was warm, and the requests held until it ends. -/
structure Survey where
  unreported : List RowCol
  limit      : Nat
  warm       : Bool
  held       : List Instr
  deriving DecidableEq, Repr

/-- The matrix controller's live state (R65, R70, R72, R76, R82, R89). -/
structure Matrix where
  xps       : Vector (Vector XpState Config.columns) Config.rows
  queue     : List Move
  overflow  : List Move
  slots     : Vector (Option Slot) Config.driveSlots
  heldOpens : List Move
  claims    : Vector (Option Nat) Config.columns
  routes    : Vector (Option RouteRequest) Config.rows
  antennas  : Vector Antenna Config.columns
  survey    : Option Survey
  deriving DecidableEq, Repr

/-- The mode of a transmitter (R94). -/
inductive TxMode where
  | remote | console
  deriving DecidableEq, Repr, Inhabited

/-- The state of a transmitter, in the order of Table 20 (R94, R95). -/
inductive TxState where
  | idle | serving | recycling | held | console
  deriving DecidableEq, Repr, Inhabited

/-- Held reasons in the order of Table 20 (R94). -/
inductive HeldReason where
  | txFault | tune | rfUp | rfStuckOn | trips
  deriving DecidableEq, Repr, Inhabited

/-- Who asked the sequencer (R98, R104). -/
inductive Requester where
  | carriage | monitor | console
  deriving DecidableEq, Repr, Inhabited

/-- The outstanding tune (R104, R105): frequency, origin, limit in milliseconds, the timer's end once sent, and its requester unless withdrawn. -/
structure Tune where
  frequency : Nat
  origin    : Option Nat
  limit     : Nat
  ends      : Option Nat
  requester : Option Requester
  deriving DecidableEq, Repr, Inhabited

/-- A pending tune (R104). -/
structure PendingTune where
  frequency : Nat
  requester : Requester
  deriving DecidableEq, Repr, Inhabited

/-- An RF ON request that waits, for the RF-down watch or for ready (R98, R106). -/
structure WaitingRfOn where
  power      : Nat
  forDown    : Bool
  requesters : List Requester
  deriving DecidableEq, Repr, Inhabited

/-- The live part of a transmitter record (R94 Table 20); the watches hold their limits on the timebase. -/
structure Tx where
  mode        : TxMode
  state       : TxState
  reason      : Option HeldReason
  tuned       : Option Nat
  power       : Option Nat
  tune        : Option Tune
  pendingTune : Option PendingTune
  rfEnable    : Bool
  rfUp        : Option Nat
  rfDown      : Option Nat
  rfOn        : Option WaitingRfOn
  deriving DecidableEq, Repr, Inhabited

/-- The phase of a carriage, in the order of Table 24 (R112). -/
inductive Phase where
  | rfDown | working | ready | keying | onAir | ending
  deriving DecidableEq, Repr, Inhabited

/-- A carriage (R112 Table 24). -/
structure Carriage where
  booking     : Nat
  day         : Nat
  start       : Nat
  stop        : Nat
  antenna     : Nat
  setting     : Setting
  frequency   : Nat
  power       : Nat
  lead        : Nat
  phase       : Phase
  routeDone   : Bool
  tuneDone    : Bool
  settingDone : Bool
  substituted : Bool
  tripUsed    : Bool
  aired       : Bool
  lateSeconds : Nat
  breakBegan  : Option Nat
  outcome     : RunOutcome
  said        : Said
  deriving DecidableEq, Repr, Inhabited

/-- An entry of a waiting list (R113). -/
structure Waiting where
  booking : Nat
  day     : Nat
  lead    : Nat
  said    : Said
  deriving DecidableEq, Repr, Inhabited

/-- A monitor record (R133 Table 28) but for the latest pair, which stands with the inputs; the timers hold their limits on the timebase. -/
structure Monitor where
  reflection  : Option Nat
  tripRun     : Nat
  warnRun     : Nat
  window      : List Nat
  displayed   : Option Nat
  tripCount   : Nat
  tripAntenna : Option Nat
  recycle     : Option Nat
  cleanRun    : Option Nat
  warned      : Option Occurrence
  deriving DecidableEq, Repr, Inhabited

/-- The attention unit (R188, R191): for each kind code the subject of its latest posting, and the alarm set. -/
structure Attention where
  planning : Vector (Option Nat) 24
  console  : Vector (Option Nat) 24
  alarm    : KindSet
  deriving DecidableEq, Repr, Inhabited

/-- An entry of the resume list (R168). -/
structure Resume where
  booking : Nat
  day     : Nat
  resumed : Bool
  deriving DecidableEq, Repr, Inhabited

/-- Orders on the hall lines (R66, R84, R96). -/
inductive Order where
  | drive (row col : Nat) (close : Bool)
  | halt (row col : Nat)
  | survey
  | setAntenna (antenna : Nat) (setting : Setting)
  | tune (transmitter frequency : Nat)
  | rfOn (transmitter power : Nat)
  | rfOff (transmitter : Nat)
  | setPower (transmitter power : Nat)
  | statusRequest (transmitter : Nat)
  deriving DecidableEq, Repr, Inhabited

/-- Why a claim is refused, in the order in which the answer names it (R76). -/
inductive ClaimRefusal where
  | absent | locked | suspect | blocked | claimed
  deriving DecidableEq, Repr, Inhabited

/-- Why a route request failed (R79). -/
inductive RouteFailure where
  | rowBlocked | columnBlocked | columnLocked
  deriving DecidableEq, Repr, Inhabited

/-- What one block tells the carriage controller inside a step (R69, R74, R79, R85, R97 to R107); log 4 says in which order they are taken. -/
inductive Report where
  | rfOff (transmitter : Nat)
  | rfUp (transmitter : Nat)
  | interlock (transmitter : Nat) (requester : Requester)
  | tuneDone (transmitter frequency : Nat)
  | routeDone (transmitter antenna : Nat)
  | routeFailed (transmitter antenna : Nat) (failure : RouteFailure)
  | settingDone (transmitter antenna : Nat) (setting : Setting)
  | settingFailed (transmitter antenna : Nat)
  | rowBlocked (transmitter : Nat)
  | columnBlocked (transmitter antenna : Nat)
  | cut (transmitter : Nat)
  | enableLost (transmitter : Nat)
  | held (transmitter : Nat)
  deriving DecidableEq, Repr, Inhabited

/-- The hall's live state, everything the ten blocks change for one another inside a step. -/
structure Hall where
  table      : Table
  calendar   : Calendar
  lookahead  : Lookahead
  matrix     : Matrix
  txs        : Vector Tx Config.rows
  carriages  : Vector (Option Carriage) Config.rows
  waiting    : Vector (List Waiting) Config.rows
  parked     : Vector (Option Offered) Config.rows
  monitors   : Vector Monitor Config.rows
  attention  : Attention
  resume     : List Resume
  orders     : List Order
  agenda     : List Report
  keyAgain   : List Nat
  deriving DecidableEq, Repr

/-- The hall mode (R172), in the order of its values. -/
inductive HallMode where
  | configuring | running | stopped
  deriving DecidableEq, Repr, Inhabited

/-- The configuration: the hall record and the configuration parts of the transmitter and antenna records (R170, R93, R81). -/
structure Configuration where
  hall     : HallRecord
  txs      : Vector TxConfig Config.rows
  antennas : Vector AntConfig Config.columns
  deriving DecidableEq, Repr

/-- What the hall lines last reported: contact readings (R65), indications (R96), detector pairs (R133). -/
structure Inputs where
  readings    : Vector (Vector Reading Config.columns) Config.rows
  indications : Vector Indications Config.rows
  pairs       : Vector (BitVec 10 × BitVec 10) Config.rows
  deriving DecidableEq, Repr

/-- What the blocks read but no block changes for another: configuration, mode, alarm mask, station clock, internal timebase in milliseconds (R26), and the inputs. -/
structure Env where
  config   : Configuration
  mode     : HallMode
  mask     : KindSet
  clock    : Clock
  timebase : Nat
  inputs   : Inputs
  deriving DecidableEq, Repr

/-- One row of a READ ROUTES row list (Table 51): route, blocked, lowest moving crosspoint's column. -/
structure RowView where
  route   : Option Nat
  blocked : Bool
  moving  : Option Nat
  deriving DecidableEq, Repr, Inhabited

/-- One column of a READ ROUTES column list (Table 51): route row, blocked, claim. -/
structure ColView where
  route   : Option Nat
  blocked : Bool
  claim   : Option Nat
  deriving DecidableEq, Repr, Inhabited

/-- A listed crosspoint (Table 51). -/
structure XpView where
  number  : Nat
  state   : XpState
  reading : Reading
  deriving DecidableEq, Repr, Inhabited

/-- One entry of a CALENDAR READ (Table 48). -/
structure SeasonView where
  entry : SeasonEntry
  ended : Bool
  names : Nat
  deriving DecidableEq, Repr, Inhabited

/-- The body of a result (12.2). -/
inductive ResultBody where
  | empty
  | booking (number : Nat) (parked : Bool)
  | block (results : List (ResultCode × Option (Nat × Bool)))
  | numbers (more : Bool) (found : List Nat)
  | record (booking : Booking) (parked : Option Offered)
  | hall (hall : HallRecord) (mode : HallMode)
  | mask (mask : KindSet)
  | divisor (divisor : Nat)
  | calendar (value : ClockValue) (status : ClockStatus) (pending : Bool) (live : Option Nat) (entries : List SeasonView)
  | cues (total : Nat) (short : Bool) (horizon today : Nat) (cues : List Cue)
  | transmitter (number : Nat) (config : TxConfig) (live : Tx) (indications : Indications) (secondsLeft : Option Nat)
      (carriage : Option (Nat × Phase)) (tripCount : Nat) (displayed : Option Nat)
  | antenna (number : Nat) (config : AntConfig) (live : Antenna) (claim route azimuth : Option Nat)
  | routes (rows : List RowView) (cols : List ColView) (slots : List (Option Move)) (queue : List Move) (more : Bool)
      (listed : List XpView)
  | poll (members : List (Nat × Nat)) (alarm : KindSet) (asserted : Bool)
  deriving DecidableEq, Repr

/-- An answer: result code and body (R185). -/
structure Answer where
  result : ResultCode
  body   : ResultBody
  deriving DecidableEq, Repr

/-- An outstanding request: the code and tag to return, and its answer once given (R185). -/
structure Outstanding where
  code   : Byte
  tag    : Byte
  answer : Option Answer
  deriving DecidableEq, Repr

/-- What a link's receiver is doing (R182, R183; log 22): waiting for a marked character, or on the console link for the line to be idle; idle (console link); receiving a frame for this part or a broadcast; ignoring a frame for another hall; disabled while the part drives the planning line. -/
inductive Receiver where
  | waiting | idle | receiving | broadcast | ignoring | disabled
  deriving DecidableEq, Repr, Inhabited

/-- One link (R181, R185, R187). -/
structure LinkState where
  divisor     : Nat
  newDivisor  : Option Nat
  outstanding : Option Outstanding
  receiver    : Receiver
  deriving DecidableEq, Repr

/-- The link unit (R181), the level of the address lines, and the MODEL's own counter of free values drawn (log 16). -/
structure Links where
  address      : Nat
  addressLines : Nat
  planning     : LinkState
  console      : LinkState
  draws        : Nat
  deriving DecidableEq, Repr

/-- Whether the part runs (R177): running, halted by the restart input since a time, or without main supply. -/
inductive Power where
  | running
  | halted (since : Nat)
  | absent
  deriving DecidableEq, Repr, Inhabited

/-- The state of the part, and the commands that wait, first in first out. -/
structure State where
  env     : Env
  power   : Power
  links   : Links
  hall    : Hall
  pending : List Instr
  deriving DecidableEq, Repr

/-- Faults: the book names none; every command of the table has an effect (INVENTORY.md, Faults). -/
inductive Fault where
  /-- Raised by no meaning of this model; safe: the machine never stops. -/
  | noEffectStated
  deriving DecidableEq, Repr

/-- Refusals. -/
inductive Refusal where
  /-- Raised by an arm of exec that has no meaning yet; safe: nothing is claimed of the command. -/
  | notModelled (mnemonic : String)
  deriving DecidableEq, Repr

/-- The live part of a transmitter record without carriage or orders (R93, R94); also what stands in an absent one's place (log 1). -/
def Tx.start : Tx where
  mode := .remote
  state := .idle
  reason := none
  tuned := none
  power := none
  tune := none
  pendingTune := none
  rfEnable := false
  rfUp := none
  rfDown := none
  rfOn := none

/-- A monitor record at start-up (R133 Table 28). -/
def Monitor.start : Monitor where
  reflection := none
  tripRun := 0
  warnRun := 0
  window := []
  displayed := none
  tripCount := 0
  tripAntenna := none
  recycle := none
  cleanRun := none
  warned := none

/-- An antenna's live part at a start-up (R82): setting UNKNOWN, but for the test load, with its retained lock state and mark. -/
def Antenna.start (antenna : Nat) (lock : LockState) (suspect : Bool) : Antenna where
  setting := if antenna = Config.testLoad then some Setting.rest else none
  change := none
  wanted := none
  lock := lock
  suspect := suspect

/-- Every crosspoint in ascending number (R65). -/
def allCrosspoints : List RowCol :=
  (List.range Config.rows).flatMap fun r => (List.range Config.columns).map fun c => { row := r, col := c }

/-- The matrix controller at a start-up, its survey order sent (R89, R90); unreported crosspoints stand STUCK (log 6). -/
def Matrix.start (antennas : Vector Antenna Config.columns) (timebase : Nat) (warm : Bool) : Matrix where
  xps := Vector.replicate _ (Vector.replicate _ .stuck)
  queue := []
  overflow := []
  slots := Vector.replicate _ none
  heldOpens := []
  claims := Vector.replicate _ none
  routes := Vector.replicate _ none
  antennas := antennas
  survey := some { unreported := allCrosspoints, limit := timebase + Config.surveyLimit, warm := warm, held := [] }

/-- Antennas at a cold start: FREE and not SUSPECT (R82). -/
def Antenna.coldAll : Vector Antenna Config.columns :=
  (Vector.replicate _ (Antenna.start 0 .free false)).set Config.testLoad (Antenna.start Config.testLoad .free false)

/-- An empty summary (R188). -/
def emptySummary : Vector (Option Nat) 24 := Vector.replicate _ none

/-- The alarm mask of a cold start: HELD, RF_FAULT, SUSPECT, STUCK, HOLDOVER, of codes 3, 4, 5, 8, 22 (R190). -/
def coldMask : KindSet := 0x20009C#24

/-- The hall after a cold start at a time of the timebase (R178): RESTARTED posted with subject 0, which the cold mask does not hold. -/
def Hall.cold (timebase : Nat) : Hall where
  table := { records := [], armed := true }
  calendar := { entries := [], live := none }
  lookahead := { cues := [], readmit := [], short := false }
  matrix := Matrix.start Antenna.coldAll timebase false
  txs := Vector.replicate _ Tx.start
  carriages := Vector.replicate _ none
  waiting := Vector.replicate _ []
  parked := Vector.replicate _ none
  monitors := Vector.replicate _ Monitor.start
  attention := { planning := emptySummary.set 23 (some 0), console := emptySummary.set 23 (some 0), alarm := 0 }
  resume := []
  orders := [.survey]
  agenda := []
  keyAgain := []

/-- The clock after a cold start (R42); the start-up counts as the last advance. -/
def Clock.cold (timebase : Nat) : Clock where
  day := 0
  second := 0
  status := .unset
  everSet := false
  setting := none
  lastPulse := 0
  lastAdvance := timebase
  watch := none

/-- The environment after a cold start (R170, R93, R81, R94, R133, R190). -/
def Env.cold (timebase : Nat) : Env where
  config :=
    { hall := Config.hallDefaults
      txs := Vector.replicate _ Config.txDefaults
      antennas := Vector.replicate _ Config.antDefaults }
  mode := .configuring
  mask := coldMask
  clock := Clock.cold timebase
  timebase := timebase
  inputs :=
    { readings := Vector.replicate _ (Vector.replicate _ .mid)
      indications := Vector.replicate _ { rfPresent := false, fault := false, ready := false }
      pairs := Vector.replicate _ (0, 0) }

/-- A link at a start-up (R181, R185). -/
def LinkState.start (receiver : Receiver) : LinkState where
  divisor := Config.startDivisor
  newDivisor := none
  outstanding := none
  receiver := receiver

/-- The link unit at a start-up that reads this hall address (R181); the console line is taken to be idle (log 22). -/
def Links.start (address draws : Nat) : Links where
  address := address
  addressLines := address
  planning := LinkState.start .waiting
  console := LinkState.start .idle
  draws := draws

/-- The part right after a cold start (R178), with the hall address of log 1. -/
def State.reset : State where
  env := Env.cold 0
  power := .running
  links := Links.start 1 0
  hall := Hall.cold 0
  pending := []

end Sys2Proof.Machine
end

