-- ==== Sys2Proof/Machine/Ops.lean ====
section
/-! DEFINITION. The named operations every block uses: reading and writing one entry of a fixed-size table, one field of the hall, the clock's now, postings (R188, R191), orders and reports. -/

namespace Sys2Proof.Machine

/-- The entry of a number; outside the table, the type's default. -/
def read [Inhabited α] (v : Vector α n) (i : Nat) : α := v[i]?.getD default

/-- The table with one entry replaced; a number outside it changes nothing. -/
def write (v : Vector α n) (i : Nat) (a : α) : Vector α n := v.setIfInBounds i a

/-- The table with one entry changed. -/
def update [Inhabited α] (v : Vector α n) (i : Nat) (f : α → α) : Vector α n := write v i (f (read v i))

/-- All row numbers. -/
def allRows : List Nat := List.range Config.rows

/-- All column numbers. -/
def allCols : List Nat := List.range Config.columns

/-- One change of the hall for each number of a list, in the order of the list. -/
def forEach (l : List Nat) (f : Nat → Hall → Hall) (h : Hall) : Hall := l.foldl (fun h i => f i h) h

/-! ## Now and absolute seconds (R25) -/

/-- A clock value as an absolute second (00_scope.md Table 2). -/
def absolute (day second : Nat) : Nat := day * Config.daySeconds + second

/-- The absolute second of the station clock (R25). -/
def Env.now (e : Env) : Nat := absolute e.clock.day e.clock.second

/-- The greatest absolute second the clock can hold (R25). -/
def lastSecond : Nat := absolute Config.lastDay (Config.daySeconds - 1)

/-- The clock at an absolute second, held at its last value (R25). -/
def Clock.setTo (c : Clock) (t : Nat) : Clock :=
  { c with day := min t lastSecond / Config.daySeconds, second := min t lastSecond % Config.daySeconds }

/-- The limit of a timer started now, in milliseconds of the timebase (R26). -/
def Env.after (e : Env) (milliseconds : Nat) : Nat := e.timebase + milliseconds

/-- Whether the clock is UNSET (R30). -/
def Env.unset (e : Env) : Bool := e.clock.status == .unset

/-! ## Fields of the environment -/

/-- A transmitter's configuration (R93). -/
def Env.txConfig (e : Env) (t : Nat) : TxConfig := read e.config.txs t

/-- An antenna's configuration (R81). -/
def Env.antConfig (e : Env) (a : Nat) : AntConfig := e.config.antennas[a]?.getD Config.antDefaults

/-- A transmitter's indications (R96). -/
def Env.indications (e : Env) (t : Nat) : Indications := read e.inputs.indications t

/-- A transmitter reports RF present (R96). -/
def Env.rfPresent (e : Env) (t : Nat) : Bool := (e.indications t).rfPresent

/-- A crosspoint's reading (R65). -/
def Env.reading (e : Env) (r c : Nat) : Reading := (read e.inputs.readings r)[c]?.getD .mid

/-! ## Fields of the hall -/

def Hall.tx (h : Hall) (t : Nat) : Tx := read h.txs t
def Hall.setTx (h : Hall) (t : Nat) (f : Tx → Tx) : Hall := { h with txs := update h.txs t f }
def Hall.carriage (h : Hall) (t : Nat) : Option Carriage := read h.carriages t
def Hall.setCarriage (h : Hall) (t : Nat) (c : Option Carriage) : Hall := { h with carriages := write h.carriages t c }

/-- A change of a carriage that is there. -/
def Hall.mapCarriage (h : Hall) (t : Nat) (f : Carriage → Carriage) : Hall := h.setCarriage t ((h.carriage t).map f)

def Hall.waitingList (h : Hall) (t : Nat) : List Waiting := read h.waiting t
def Hall.setWaiting (h : Hall) (t : Nat) (l : List Waiting) : Hall := { h with waiting := write h.waiting t l }
def Hall.slotOf (h : Hall) (t : Nat) : Option Offered := read h.parked t
def Hall.setSlot (h : Hall) (t : Nat) (r : Option Offered) : Hall := { h with parked := write h.parked t r }
def Hall.monitor (h : Hall) (t : Nat) : Monitor := read h.monitors t
def Hall.setMonitor (h : Hall) (t : Nat) (f : Monitor → Monitor) : Hall := { h with monitors := update h.monitors t f }
def Hall.xp (h : Hall) (r c : Nat) : XpState := (read h.matrix.xps r)[c]?.getD .opened
def Hall.mapMatrix (h : Hall) (f : Matrix → Matrix) : Hall := { h with matrix := f h.matrix }

/-- A crosspoint's new state (R65). -/
def Hall.setXp (h : Hall) (r c : Nat) (x : XpState) : Hall :=
  h.mapMatrix fun m => { m with xps := update m.xps r fun row => write row c x }

def Hall.antenna (h : Hall) (a : Nat) : Antenna := read h.matrix.antennas a
def Hall.setAntenna (h : Hall) (a : Nat) (f : Antenna → Antenna) : Hall :=
  h.mapMatrix fun m => { m with antennas := update m.antennas a f }
def Hall.claim (h : Hall) (a : Nat) : Option Nat := read h.matrix.claims a
def Hall.setClaim (h : Hall) (a : Nat) (t : Option Nat) : Hall :=
  h.mapMatrix fun m => { m with claims := write m.claims a t }
def Hall.route (h : Hall) (t : Nat) : Option RouteRequest := read h.matrix.routes t
def Hall.setRoute (h : Hall) (t : Nat) (r : Option RouteRequest) : Hall :=
  h.mapMatrix fun m => { m with routes := write m.routes t r }
def Hall.mapLookahead (h : Hall) (f : Lookahead → Lookahead) : Hall := { h with lookahead := f h.lookahead }

/-! ## Postings, orders and reports -/

/-- The bit of a kind in a set, one less than its code (R192). -/
def EventKind.bit (k : EventKind) : Nat := k.ctorIdx

/-- Whether a set holds a kind. -/
def KindSet.holds (s : KindSet) (k : EventKind) : Bool := s.getLsbD k.bit

/-- A set with a kind added. -/
def KindSet.add (s : KindSet) (k : EventKind) : KindSet := s ||| BitVec.twoPow 24 k.bit

/-- One posting as the attention unit takes it: both summaries, then the alarm (R188, R191). -/
def Attention.post (mask : KindSet) (k : EventKind) (subject : Nat) (a : Attention) : Attention where
  planning := write a.planning k.bit (some subject)
  console := write a.console k.bit (some subject)
  alarm := if KindSet.holds mask k then KindSet.add a.alarm k else a.alarm

/-- An event kind posted with a subject (R188). -/
def post (e : Env) (k : EventKind) (subject : Nat) (h : Hall) : Hall :=
  { h with attention := h.attention.post e.mask k subject }

/-- An order sent on a hall line (log 23). -/
def send (o : Order) (h : Hall) : Hall := { h with orders := h.orders ++ [o] }

/-- A report left for the carriage controller, after those already left (log 4). -/
def raise (r : Report) (h : Hall) : Hall := { h with agenda := h.agenda ++ [r] }

/-- The report that a transmitter is HELD, taken before those already left (log 4). -/
def raiseFirst (r : Report) (h : Hall) : Hall := { h with agenda := r :: h.agenda }

/-! ## Ordered collections -/

/-- A list with an item inserted before the first that is not less. -/
def insertBy (less : α → α → Bool) (x : α) : List α → List α
  | [] => [x]
  | y :: rest => if less y x then y :: insertBy less x rest else x :: y :: rest

/-- A list put in order, equal items keeping their order. -/
def sortBy (less : α → α → Bool) (l : List α) : List α := l.foldr (insertBy less) []

/-! ## Booking records -/

/-- The record of a booking number (R4). -/
def Hall.booking (h : Hall) (number : Nat) : Option Booking := h.table.records.find? (·.fields.number == number)

/-- The transmitter whose carriage serves a booking, if any. A carriage names its booking by number, so one in ENDING of a withdrawn booking serves a record entered anew under the number (log 63); of two carriages of one booking the one of the lowest transmitter is taken (log 64). Both are the model's choice. -/
def Hall.servedBy (h : Hall) (number : Nat) : Option Nat :=
  allRows.find? fun t => (h.carriage t).any (·.booking == number)

/-- A record changed in place, keeping its number (R4, R23); a number not in the table changes nothing. -/
def Hall.mapBooking (h : Hall) (number : Nat) (f : Booking → Booking) : Hall :=
  { h with table := { h.table with records := h.table.records.map fun b => if b.fields.number == number then f b else b } }

/-- When an occurrence of these fields on this day begins (R3). -/
def startOn (b : Offered) (day : Nat) : Nat := day * Config.daySeconds + b.start * 60

/-- When an occurrence of these fields on this day ends (R3). -/
def endOn (b : Offered) (day : Nat) : Nat := startOn b day + b.duration * 60

end Sys2Proof.Machine
end

