-- ==== Sys2Proof/Machine/Flags.lean ====
section
/-! DEFINITION. Every condition the book computes from the state: seasons and occurrences (R3, R36), entry checks (R7 to R11), conflicts (R13 to R16), routes and blocking (R67), RF enable (R97), claims and usable columns (R76, R117). -/

namespace Sys2Proof.Machine

/-! ## Seasons (R8, R36, R37) -/

/-- The season live on a day: that of the entry with the greatest first day that is the day or earlier (R36). -/
def liveOn (entries : List SeasonEntry) (day : Nat) : Option Nat :=
  ((entries.filter (·.firstDay ≤ day)).getLast?).map (·.id)

/-- A season has ended on a day when the calendar holds a later entry whose first day is that day or earlier (R8, R36). -/
def endedOn (entries : List SeasonEntry) (season day : Nat) : Bool :=
  entries.any fun own => own.id == season && entries.any fun next => own.firstDay < next.firstDay && next.firstDay ≤ day

/-- A season has ended today; never while the clock is UNSET (R8, R30). -/
def seasonEnded (e : Env) (h : Hall) (season : Nat) : Bool :=
  !e.unset && endedOn h.calendar.entries season e.clock.day

/-- How many bookings name a season: current fields, or the fields of a parked amendment (R36). -/
def namesOf (h : Hall) (season : Nat) : Nat :=
  (h.table.records.filter fun b =>
    b.fields.season == season || allRows.any fun t =>
      (h.slotOf t).any fun p => p.number == b.fields.number && p.season == season).length

/-! ## Occurrences (R3) -/

/-- The first three conditions of R3: weekday, live season, date limits. -/
def carriesDay (entries : List SeasonEntry) (b : Offered) (day : Nat) : Bool :=
  (b.days[day % 7]?.getD false) && liveOn entries day == some b.season &&
    b.firstDay.all (· ≤ day) && b.lastDay.all (day ≤ ·)

/-- All four conditions of R3. -/
def carriesFresh (entries : List SeasonEntry) (b : Booking) (day : Nat) : Bool :=
  carriesDay entries b.fields day && b.lastRun.all (· < day)

/-! ## Capability, bands and fit (R2, R9, R10, R11) -/

/-- A capability admits a setting (R2). -/
def admits (a : AntConfig) (s : Setting) : Bool :=
  s.slew.natAbs ≤ a.maxSlew && (s.dir == .forward || a.reversible)

/-- The setting an alternate is used with (R2). -/
def alternateSetting (a : AntConfig) (s : Setting) : Setting := if admits a s then s else Setting.rest

/-- A frequency lies in a band window (R10). -/
def inBand (a : AntConfig) (f : Nat) : Bool := a.windows.any fun w => w.low ≤ f && f ≤ w.high

/-- A frequency in the sense of the conventions (00_scope.md, Numbers). -/
def isFrequency (f : Nat) : Bool := 2300 ≤ f && f ≤ 26100 && f % 5 == 0

/-- A power in kW (00_scope.md, Numbers). -/
def isPower (p : Nat) : Bool := 10 ≤ p && p ≤ 600

/-- R7: the FORMAT check passes. -/
def formatOk (b : Offered) : Bool :=
  1 ≤ b.number && b.number ≤ 9999 && 1 ≤ b.season && b.season ≤ 255 &&
  b.transmitter < Config.rows && b.antenna < Config.columns &&
  b.alternate.all (fun a => a < Config.columns && a != b.antenna) &&
  b.setting.slew.natAbs ≤ 6 && isFrequency b.frequency && isPower b.power &&
  b.start ≤ 1439 && 1 ≤ b.duration && b.duration ≤ 1440 && b.days.toList.any id &&
  (match b.firstDay, b.lastDay with | some f, some l => f ≤ l | _, _ => true) &&
  b.label.length ≤ 12 && b.label.all (fun c => 32 ≤ c && c ≤ 126)

/-- R8: the SEASON check passes. -/
def seasonOk (e : Env) (h : Hall) (b : Offered) : Bool :=
  h.calendar.entries.any (·.id == b.season) && !seasonEnded e h b.season

/-- R9: the RANGE check passes. -/
def rangeOk (e : Env) (b : Offered) : Bool :=
  (e.txConfig b.transmitter).present && (e.antConfig b.antenna).present &&
  b.alternate.all (fun a => (e.antConfig a).present) &&
  (e.txConfig b.transmitter).minFreq ≤ b.frequency && b.frequency ≤ (e.txConfig b.transmitter).maxFreq

/-- R10: the BAND check passes. -/
def bandOk (e : Env) (b : Offered) : Bool :=
  inBand (e.antConfig b.antenna) b.frequency &&
  b.alternate.all fun a => inBand (e.antConfig a) b.frequency && b.power ≤ (e.antConfig a).rating

/-- R11: the POWER check passes. -/
def powerOk (e : Env) (b : Offered) : Bool :=
  b.power ≤ (e.txConfig b.transmitter).rated && b.power ≤ (e.antConfig b.antenna).rating

/-- R11: the SETTING check passes. -/
def settingOk (e : Env) (b : Offered) : Bool := admits (e.antConfig b.antenna) b.setting

/-- Checks 3 to 6 of Table 5 in order: the code of the first that fails (R6, R174). -/
def unfit (e : Env) (b : Offered) : Option ResultCode :=
  if !rangeOk e b then some .range
  else if !bandOk e b then some .band
  else if !powerOk e b then some .power
  else if !settingOk e b then some .setting
  else none

/-! ## Conflicts (R13 to R16) -/

/-- The week-minutes at which a record's weekly intervals begin (R14). -/
def weekStarts (b : Offered) : List Nat :=
  ((List.range 7).filter fun w => b.days[w]?.getD false).map fun w => w * 1440 + b.start

/-- Two intervals on the circle of 10 080 minutes overlap (R14). -/
def intervalsOverlap (a da b db : Nat) : Bool :=
  (b + 10080 - a % 10080) % 10080 < da || (a + 10080 - b % 10080) % 10080 < db

/-- Two records overlap in time across the week (R14). -/
def weekOverlap (x y : Offered) : Bool :=
  (weekStarts x).any fun a => (weekStarts y).any fun b => intervalsOverlap a x.duration b y.duration

/-- The end of a record's range of days, extended by a day when an occurrence runs past midnight (R15). -/
def lastReach (b : Offered) : Option Nat :=
  b.lastDay.map fun l => if b.start + b.duration > 1440 then l + 1 else l

/-- Two ranges of days overlap: each begins no later than the other ends (R15). -/
def datesOverlap (x y : Offered) : Bool :=
  (x.firstDay.all fun f => (lastReach y).all (f ≤ ·)) && (y.firstDay.all fun f => (lastReach x).all (f ≤ ·))

/-- A compared record: whose number it is, whether its fields are parked, and the fields (R13). -/
structure Compared where
  number : Nat
  parked : Bool
  fields : Offered
  deriving DecidableEq, Repr

/-- The parked record of a booking, if any (R13, R146); of two, parked for two carriages of the booking, that of the lowest transmitter (the model's choice, log 64). -/
def parkedOf (h : Hall) (number : Nat) : Option Offered :=
  (allRows.filterMap h.slotOf).find? (·.number == number)

/-- What an offered record is compared with, in the order in which conflicts are named: ascending number, current fields before parked (R6, R13); time-compatible only (R14, R15). -/
def comparedWith (h : Hall) (b : Offered) : List Compared :=
  (h.table.records.flatMap fun r =>
    if r.fields.number == b.number then []
    else [{ number := r.fields.number, parked := false, fields := r.fields }] ++
      ((parkedOf h r.fields.number).map fun p => { number := r.fields.number, parked := true, fields := p }).toList).filter
    fun c => c.fields.season == b.season && weekOverlap b c.fields && datesOverlap b c.fields

/-- Check 9: the first kind of conflict found against any compared record, with number and mark (R6, R13, R16). -/
def conflictOf (e : Env) (h : Hall) (b : Offered) : Option (ResultCode × Nat × Bool) :=
  match (comparedWith h b).find? (·.fields.transmitter == b.transmitter) with
  | some c => some (.conflictTx, c.number, c.parked)
  | none =>
    match (comparedWith h b).find? (·.fields.antenna == b.antenna) with
    | some c => some (.conflictAnt, c.number, c.parked)
    | none =>
      match (comparedWith h b).find? fun c => absDiff c.fields.frequency b.frequency < e.config.hall.guard with
      | some c => some (.conflictFreq, c.number, c.parked)
      | none => none

/-- The entry checks of Table 5 in order: the code of the first that fails, with what a conflict names (R6). -/
def entryCheck (e : Env) (h : Hall) (amending : Bool) (b : Offered) : Option (ResultCode × Option (Nat × Bool)) :=
  if !formatOk b then some (.format, none)
  else if !seasonOk e h b then some (.season, none)
  else match unfit e b with
    | some code => some (code, none)
    | none =>
      if !amending && (h.booking b.number).isSome then some (.exists, none)
      else if amending && (h.booking b.number).isNone then some (.unknown, none)
      else match conflictOf e h b with
        | some (code, number, mark) => some (code, some (number, mark))
        | none =>
          if !amending && Config.tableCapacity ≤ h.table.records.length then some (.full, none) else none

/-! ## Routes, blocking and the settled route (R67) -/

/-- The columns of a row's CLOSED crosspoints. -/
def closedCols (h : Hall) (t : Nat) : List Nat := allCols.filter fun a => h.xp t a == .closed

/-- The rows of a column's CLOSED crosspoints. -/
def closedRows (h : Hall) (a : Nat) : List Nat := allRows.filter fun t => h.xp t a == .closed

/-- The only item of a list that holds exactly one. -/
def only : List α → Option α
  | [x] => some x
  | _ => none

/-- The route of a row (R67). -/
def rowRoute (h : Hall) (t : Nat) : Option Nat := only (closedCols h t)

/-- The route of a column (R67). -/
def colRoute (h : Hall) (a : Nat) : Option Nat := only (closedRows h a)

/-- A moving state (R65). -/
def XpState.moving : XpState → Bool
  | .closing | .opening => true
  | _ => false

/-- A row is blocked while any of its crosspoints is STUCK (R67). -/
def rowBlocked (h : Hall) (t : Nat) : Bool := allCols.any fun a => h.xp t a == .stuck

/-- A column is blocked while any of its crosspoints is STUCK (R67). -/
def colBlocked (h : Hall) (a : Nat) : Bool := allRows.any fun t => h.xp t a == .stuck

/-- The columns of the crosspoints moving in a row. -/
def movingCols (h : Hall) (t : Nat) : List Nat := allCols.filter fun a => (h.xp t a).moving

/-- A column whose antenna is present, FREE and SETTLED (R67, R71). -/
def columnReady (e : Env) (h : Hall) (a : Nat) : Bool :=
  (e.antConfig a).present && (h.antenna a).lock == .free && (h.antenna a).change.isNone

/-- The column of a row's settled route, if the route is settled (R67). -/
def settledRoute (e : Env) (h : Hall) (t : Nat) : Option Nat :=
  match rowRoute h t with
  | none => none
  | some a =>
    if (movingCols h t).isEmpty && !rowBlocked h t && closedRows h a == [t] && columnReady e h a then some a else none

/-- The four conditions of R97 for a transmitter at a power; a HELD or absent transmitter never meets them. -/
def mayRadiate (e : Env) (h : Hall) (t : Nat) (power : Nat) : Bool :=
  (e.txConfig t).present && (h.tx t).state != .held &&
  (e.mode == .running || ((h.tx t).state == .console && e.mode != .configuring)) &&
  match settledRoute e h t with
  | none => false
  | some a => (h.tx t).tuned.any (inBand (e.antConfig a)) && power ≤ (e.antConfig a).rating

/-- RF could be on a row: RF enable asserted or RF present reported (R71, R69). -/
def rowLive (e : Env) (h : Hall) (t : Nat) : Bool := (h.tx t).rfEnable || e.rfPresent t

/-- A column carries no RF (R84). -/
def columnSilent (e : Env) (h : Hall) (a : Nat) : Bool :=
  match colRoute h a with
  | none => true
  | some t => !rowLive e h t && !(h.carriage t).any (·.phase == .keying)

/-! ## Claims and usable columns (R76, R117) -/

/-- The first of the conditions of a claim that fails, in the order in which the answer names them (R76). -/
def claimRefusal (e : Env) (h : Hall) (t a : Nat) : Option ClaimRefusal :=
  if !(e.antConfig a).present then some .absent
  else if (h.antenna a).lock != .free then some .locked
  else if (h.antenna a).suspect then some .suspect
  else if colBlocked h a then some .blocked
  else if (h.claim a).any (· != t) then some .claimed
  else none

/-- The matrix controller's answer to a request for a claim: one the transmitter already holds is granted at once (R76). -/
def claimAnswer (e : Env) (h : Hall) (t a : Nat) : Option ClaimRefusal :=
  if h.claim a = some t then none else claimRefusal e h t a

/-- The conditions on which the matrix controller grants a claim all hold (R76). -/
def claimable (e : Env) (h : Hall) (t a : Nat) : Bool := (claimRefusal e h t a).isNone

/-- A column is usable for an occurrence of a transmitter (R117). -/
def usable (e : Env) (h : Hall) (t a : Nat) : Bool :=
  claimable e h t a &&
  (colRoute h a).all fun r => r == t ||
    !((h.carriage r).isSome || (h.tx r).state == .console || e.rfPresent r)

/-- A column holds nothing CLOSED, moving or STUCK, and no claim (R83, R157). -/
def columnEmpty (h : Hall) (a : Nat) : Bool :=
  (allRows.all fun t => h.xp t a == .opened) && (h.claim a).isNone

/-! ## Carriages -/

/-- RF_DOWN, WORKING or READY (R120, R150). -/
def Phase.early : Phase → Bool
  | .rfDown | .working | .ready => true
  | _ => false

/-- KEYING or ON_AIR (R122, R129). -/
def Phase.live : Phase → Bool
  | .keying | .onAir => true
  | _ => false

/-- A booking with this carriage is on air; otherwise it is preparing (R146). -/
def Carriage.onTheAir (c : Carriage) : Bool := !c.phase.early || c.aired

/-- MISSED, or CUT when the carriage has aired (R120, R122, R124). -/
def Carriage.lost (c : Carriage) : RunOutcome := if c.aired then .cut else .missed

end Sys2Proof.Machine
end

