-- ==== Sys2Proof/Machine/Sequencer.lean ====
section
/-! DEFINITION. The transmitter sequencer: RF enable and keying (R97 to R103), tuning (R104 to R106), HELD (R107, R108), what the other blocks ask of it (R95, R109), and the route requests withdrawn when a transmitter leaves LOCAL or its carriage goes (R75). -/

namespace Sys2Proof.Machine

/-! ## Withdrawing a route request (R75) -/

/-- A requester's queued moves leave the queue, but for those merged with another's (R75). -/
def dropAsker (asker : Asker) (l : List Move) : List Move :=
  l.filterMap fun m =>
    if m.askers.contains asker then
      if (m.askers.filter (· != asker)).isEmpty then none else some { m with askers := m.askers.filter (· != asker) }
    else some m

/-- A transmitter's route request or local route is withdrawn (R75). -/
def withdrawRoute (t : Nat) (h : Hall) : Hall :=
  (h.mapMatrix fun m =>
    { m with queue := dropAsker (.localRoute t) (dropAsker (.route t) m.queue)
             overflow := dropAsker (.localRoute t) (dropAsker (.route t) m.overflow) }).setRoute t none

/-- A transmitter leaves LOCAL: a local route it has is withdrawn (R75). -/
def leaveLocal (t : Nat) (h : Hall) : Hall := if (h.route t).any (·.isLocal) then withdrawRoute t h else h

/-! ## RF and tuning (R97 to R106) -/

/-- The tune component u from a tuned frequency, or none, to a frequency (R58). -/
def tuneTime (c : TxConfig) (origin : Option Nat) (f : Nat) : Nat :=
  match origin with
  | none => c.tuneBase + ceilDiv (c.tuneRate * (c.maxFreq - c.minFreq)) 10000
  | some g => if g = f then 0 else c.tuneBase + ceilDiv (c.tuneRate * absDiff f g) 10000

/-- An order on a transmitter line; none is sent to an absent transmitter (R96). -/
def sendTx (e : Env) (t : Nat) (o : Order) (h : Hall) : Hall :=
  if (e.txConfig t).present then send o h else h

/-- An RF OFF request (R100); it also cancels an RF ON request that waits (R106). -/
def rfOff (e : Env) (t : Nat) (h : Hall) : Hall :=
  let h := h.setTx t fun x => { x with rfEnable := false, rfUp := none, rfOn := none }
  let h := sendTx e t (.rfOff t) h
  if !(e.txConfig t).present then h
  else if !e.rfPresent t then raise (.rfOff t) h
  else if (h.tx t).rfDown.isSome then h
  else h.setTx t fun x => { x with rfDown := some (e.after (((e.txConfig t).rfDown + 5) * 1000)) }

/-- RF ON is sent: RF enable asserted, the RF-up watch started (R98, R99). -/
def keyUp (e : Env) (t power : Nat) (h : Hall) : Hall :=
  sendTx e t (.rfOn t power) <|
    h.setTx t fun x => { x with rfEnable := true, rfOn := none, rfUp := some (e.after Config.rfUpLimit) }

/-- Everyone who waits for an RF ON is told that it failed with reason INTERLOCK (R98, R106). -/
def tellInterlock (t : Nat) (requesters : List Requester) (h : Hall) : Hall :=
  requesters.foldl (fun h r => if r = .console then h else raise (.interlock t r) h) h

/-- Steps 3 and 4 of R98, also what a request that waited for the RF-down watch is taken from. -/
def rfOnChecked (e : Env) (t power : Nat) (requesters : List Requester) (h : Hall) : Hall :=
  if !mayRadiate e h t power then
    tellInterlock t requesters (h.setTx t fun x => { x with rfOn := none })
  else
    let h := h.setTx t fun x => { x with power := some power }
    if (e.indications t).ready then keyUp e t power h
    else h.setTx t fun x => { x with rfOn := some { power := power, forDown := false, requesters := requesters } }

/-- A SET POWER request (R103); a request of RF ON that still waits is the next RF ON, which carries the new power (R149). -/
def setPower (e : Env) (t power : Nat) (h : Hall) : Hall :=
  let rating := match rowRoute h t with
    | none => power
    | some a => (e.antConfig a).rating
  if power > (e.txConfig t).rated || power > rating then h
  else
    let h := h.setTx t fun x => { x with power := some power, rfOn := x.rfOn.map fun w => { w with power := power } }
    if (h.tx t).rfEnable then sendTx e t (.setPower t power) h else h

/-- RF is up: RF enable asserted and RF present confirmed (R99). -/
def rfIsUp (e : Env) (h : Hall) (t : Nat) : Bool :=
  (h.tx t).rfEnable && (h.tx t).rfUp.isNone && e.rfPresent t

/-- An RF ON request of the carriage controller or the monitor, or a LOCAL RF ON that has passed its own refusals (R98). One that joins an earlier request leaves the power that one named (the model's choice, log 47). -/
def rfOn (e : Env) (t power : Nat) (by' : Requester) (h : Hall) : Hall :=
  if by' ≠ .console && (h.tx t).state = .held then raise (.held t) h
  else if rfIsUp e h t then
    let h := if (h.tx t).power = some power then h else setPower e t power h
    if by' = .console then h else raise (.rfUp t) h
  else if (h.tx t).rfUp.isSome then h
  else match (h.tx t).rfOn with
    | some w => h.setTx t fun x => { x with rfOn := some { w with requesters := w.requesters ++ [by'] } }
    | none =>
      if (h.tx t).rfDown.isSome then
        h.setTx t fun x => { x with rfOn := some { power := power, forDown := true, requesters := [by'] } }
      else rfOnChecked e t power [by'] h

/-- A frequency becomes the outstanding tune (R104 step 5): held unsent while ready is off (R106). Its limit is worked out now, also when it is sent later (the model's choice, log 46). -/
def startTune (e : Env) (t f : Nat) (by' : Requester) (h : Hall) : Hall :=
  let origin := (h.tx t).tuned
  let limit := (tuneTime (e.txConfig t) origin f + e.config.hall.tuneGrace) * 1000
  let ready := (e.indications t).ready
  let h := h.setTx t fun x =>
    { x with tuned := none
             tune := some { frequency := f, origin := origin, limit := limit,
                            ends := if ready then some (e.after limit) else none, requester := some by' } }
  if ready then sendTx e t (.tune t f) h else h

/-- The carriage controller is told that a tune it asked for is done (R105). -/
def tellTuned (t f : Nat) (by' : Option Requester) (h : Hall) : Hall :=
  if by' = some .carriage then raise (.tuneDone t f) h else h

/-- Steps 4 to 6 of R104. -/
def takeTune (e : Env) (t f : Nat) (by' : Requester) (h : Hall) : Hall :=
  if (h.tx t).tune.isSome then h.setTx t fun x => { x with pendingTune := some { frequency := f, requester := by' } }
  else if (h.tx t).tuned = some f then tellTuned t f (some by') h
  else startTune e t f by' h

/-- The refusals of R104's steps 2 and 3. -/
def tuneRefusal (e : Env) (h : Hall) (t f : Nat) : Option ResultCode :=
  if f < (e.txConfig t).minFreq || (e.txConfig t).maxFreq < f then some .range
  else if rowLive e h t then some .interlock
  else none

/-- A tune request of the carriage controller (R104). -/
def askTune (e : Env) (t f : Nat) (h : Hall) : Hall :=
  if (h.tx t).state = .held then raise (.held t) h
  else if (tuneRefusal e h t f).isSome then h
  else takeTune e t f .carriage h

/-- The tests of R104's step 1: a LOCAL TUNE of a transmitter that is no longer LOCAL, a carriage's of one that is HELD. -/
def tuneBarred (h : Hall) (t : Nat) (by' : Requester) : Bool :=
  if by' = .console then (h.tx t).state != .console else (h.tx t).state == .held

/-- The pending tune, if any, is taken as a new request under R104, its tests with it (R105, R106); one that fails them is dropped (log 32). -/
def takePendingTune (e : Env) (t : Nat) (h : Hall) : Hall :=
  match (h.tx t).pendingTune with
  | none => h
  | some p =>
    let h := h.setTx t fun x => { x with pendingTune := none }
    if tuneBarred h t p.requester || (tuneRefusal e h t p.frequency).isSome then h
    else takeTune e t p.frequency p.requester h

/-- The carriage controller withdraws its tunes (R104, R106). -/
def withdrawTune (e : Env) (t : Nat) (h : Hall) : Hall :=
  let h := h.setTx t fun x =>
    { x with pendingTune := x.pendingTune.filter fun p => p.requester != .carriage }
  match (h.tx t).tune with
  | some u =>
    if u.requester = some .carriage then
      if u.ends.isSome then h.setTx t fun x => { x with tune := some { u with requester := none } }
      else takePendingTune e t (h.setTx t fun x => { x with tune := none, tuned := u.origin })
    else h
  | none => h

/-- Entry into HELD (R107); a transmitter already HELD changes nothing, and one that was LOCAL leaves it (R75; log 34). With reason RF_STUCK_ON its RF OFF starts the RF-down watch anew (log 36). -/
def enterHeld (e : Env) (t : Nat) (reason : HeldReason) (h : Hall) : Hall :=
  if (h.tx t).state = .held then h
  else
    let h := leaveLocal t (h.setTx t fun x => { x with state := .held, reason := some reason })
    let h := rfOff e t h
    let h := h.setTx t fun x =>
      { x with tuned := if x.tune.isSome then none else x.tuned, tune := none, pendingTune := none }
    let h := h.setMonitor t fun m => { m with recycle := none, cleanRun := none }
    raiseFirst (.held t) (post e .held t h)

/-- The sequencer is told that a carriage has opened or been adopted (R95). -/
def carriageOpened (t : Nat) (h : Hall) : Hall := h.setTx t fun x => { x with state := .serving }

/-- The sequencer is told that a carriage has ended (R95). -/
def carriageEnded (t : Nat) (h : Hall) : Hall :=
  h.setTx t fun x => { x with state := if x.state = .held ∨ x.state = .console then x.state else .idle }

/-- A trip request of the monitor (R109). -/
def tripTx (e : Env) (t : Nat) (h : Hall) : Hall :=
  rfOff e t (h.setTx t fun x => { x with state := if x.state = .serving then .recycling else x.state })

/-- A recycle request of the monitor (R109). With no commanded power, after a trip before the first RF ON was sent, the power of the RF ON is a free value (log 57). -/
def recycleTx (e : Env) (t : Nat) (h : Hall) : Hall :=
  if (h.tx t).state = .recycling then
    rfOn e t ((h.tx t).power.getD (Config.freePower t e.timebase)) .monitor (h.setTx t fun x => { x with state := .serving })
  else h

/-- R97 as a level: an RF enable whose conditions no longer hold is withdrawn with RF OFF, and the carriage controller is told. -/
def enforceOne (e : Env) (t : Nat) (h : Hall) : Hall :=
  if (h.tx t).rfEnable && !mayRadiate e h t ((h.tx t).power.getD 0) then
    let h := rfOff e t h
    if (h.carriage t).isSome then raise (.enableLost t) h else h
  else h

/-- R97 tested for every transmitter. -/
def enforceRf (e : Env) (h : Hall) : Hall := forEach allRows (enforceOne e) h

/-- A status report turned RF present on (R99, R100, R102). -/
def rfCameOn (e : Env) (t : Nat) (h : Hall) : Hall :=
  if (h.tx t).rfUp.isSome then raise (.rfUp t) (h.setTx t fun x => { x with rfUp := none })
  else if !(h.tx t).rfEnable && (h.tx t).rfDown.isNone then rfOff e t h
  else h

/-- A status report turned RF present off (R101, R102, R138, R143); a request that waited for the watch is then taken (R98). -/
def rfWentOff (e : Env) (t : Nat) (h : Hall) : Hall :=
  let h := h.setMonitor t fun m => { m with window := [], cleanRun := none }
  if (h.tx t).rfDown.isSome then
    let h := raise (.rfOff t) (h.setTx t fun x => { x with rfDown := none })
    match (h.tx t).rfOn with
    | some w => if w.forDown then rfOnChecked e t w.power w.requesters h else h
    | none => h
  else if (h.tx t).rfEnable && (h.tx t).rfUp.isNone then enterHeld e t .txFault h
  else h

/-- Ready turned on: the held TUNE, then the held RF ON (R106). -/
def becameReady (e : Env) (t : Nat) (h : Hall) : Hall :=
  let h := match (h.tx t).tune with
    | some u =>
      if u.ends.isNone then
        sendTx e t (.tune t u.frequency) (h.setTx t fun x => { x with tune := some { u with ends := some (e.after u.limit) } })
      else h
    | none => h
  match (h.tx t).rfOn with
  | some w => if w.forDown then h else rfOnChecked e t w.power w.requesters h
  | none => h

/-- A change of RF present in a status report (R96, R99 to R102). -/
def takeRfPresent (e : Env) (t : Nat) (old new : Indications) (h : Hall) : Hall :=
  if new.rfPresent && !old.rfPresent then rfCameOn e t h
  else if !new.rfPresent && old.rfPresent then rfWentOff e t h else h

/-- A change of the fault indication (R96, R108). -/
def takeFault (e : Env) (t : Nat) (old new : Indications) (h : Hall) : Hall :=
  if new.fault && !old.fault then enterHeld e t .txFault h else h

/-- A change of the ready indication (R96, R106). -/
def takeReady (e : Env) (t : Nat) (old new : Indications) (h : Hall) : Hall :=
  if new.ready && !old.ready then becameReady e t h else h

/-- A tune complete report of a present transmitter (R105). -/
def tuneReported (e : Env) (t f : Nat) (h : Hall) : Hall :=
  match (h.tx t).tune with
  | none => h
  | some u =>
    if u.frequency = f then
      takePendingTune e t (tellTuned t f u.requester (h.setTx t fun x => { x with tuned := some f, tune := none }))
    else enterHeld e t .tune h

/-- The tune timer reaches its limit (R105). -/
def tuneExpired (e : Env) (t : Nat) (h : Hall) : Hall :=
  if (h.tx t).tune.any (·.ends.isSome) then enterHeld e t .tune h else h

/-- The RF-up watch reaches 10 s (R99). -/
def rfUpExpired (e : Env) (t : Nat) (h : Hall) : Hall :=
  if (h.tx t).rfUp.isNone then h
  else
    let h := h.setTx t fun x => { x with rfUp := none }
    if e.rfPresent t then h else enterHeld e t .rfUp h

/-- The RF-down watch reaches its limit (R101). -/
def rfDownExpired (e : Env) (t : Nat) (h : Hall) : Hall :=
  if (h.tx t).rfDown.isNone then h
  else
    let h := post e .rfFault t (h.setTx t fun x => { x with rfDown := none })
    if (h.tx t).state = .held then h.setTx t fun x => { x with reason := some .rfStuckOn }
    else enterHeld e t .rfStuckOn h

end Sys2Proof.Machine
end

