-- ==== Sys2Proof/Machine/Matrix.lean ====
section
/-! DEFINITION. The matrix controller: the drive queue and slots (R70 to R75), claims (R76, R77), routes (R78 to R80), settings (R84 to R86), the SUSPECT mark (R87), stuck crosspoints (R69, R74), lock completion (R83). -/

namespace Sys2Proof.Machine

/-- A move is of this crosspoint. -/
def Move.isOf (m : Move) (r c : Nat) : Bool := m.row == r && m.col == c

/-- A move at the end of its part of the queue: safety opens at the head (R70). -/
def placeInQueue (q : List Move) (m : Move) : List Move :=
  if m.safety then q.filter (·.safety) ++ [m] ++ q.filter (!·.safety) else q ++ [m]

/-- Moves that wait for room enter the queue in their order (R70, R90; log 12). -/
def drain : List Move → List Move → List Move × List Move
  | q, [] => (q, [])
  | q, m :: rest => if q.length < Config.queueCapacity then drain (placeInQueue q m) rest else (q, m :: rest)

/-- The queue takes what waits for room. -/
def drainOverflow (h : Hall) : Hall :=
  h.mapMatrix fun m => { m with queue := (drain m.queue m.overflow).1, overflow := (drain m.queue m.overflow).2 }

/-- A move joins the queue, behind those that already wait for room (R70, R90). -/
def enqueue (mv : Move) (h : Hall) : Hall :=
  drainOverflow (h.mapMatrix fun m => { m with overflow := m.overflow ++ [mv] })

/-- A queued move merged with a request for it: both requesters, SAFETY if either is (R70). -/
def mergeMove (old new : Move) : Move :=
  { old with safety := old.safety || new.safety, askers := old.askers ++ new.askers }

/-- A request for a move merged with a queued move of the same crosspoint and direction (R70); one that still waits for room is merged where it waits (log 51). -/
def mergeInto (mv : Move) (m : Matrix) : Matrix :=
  let same := fun (x : Move) => x.isOf mv.row mv.col && x.close == mv.close
  match m.queue.find? same with
  | some old =>
    if mv.safety && !old.safety then
      { m with queue := placeInQueue (m.queue.filter (!same ·)) (mergeMove old mv) }
    else { m with queue := m.queue.map fun x => if same x then mergeMove x mv else x }
  | none => { m with overflow := m.overflow.map fun x => if same x then mergeMove x mv else x }

/-- A request for a move (R70). One that is complete at once or fails at once needs no queue; the routes read the crosspoints themselves (log 11). -/
def askMove (mv : Move) (h : Hall) : Hall :=
  let x := h.xp mv.row mv.col
  if x = .stuck then h
  else if mv.close && (x = .closed || x = .closing) then h
  else if !mv.close && (x = .opened || x = .opening) then h
  else if (h.matrix.queue ++ h.matrix.overflow).any fun q => q.isOf mv.row mv.col && q.close == mv.close then
    h.mapMatrix (mergeInto mv)
  else if mv.safety && x = .closing then h.mapMatrix fun m => { m with heldOpens := m.heldOpens ++ [mv] }
  else enqueue mv h

/-- A safety open of a crosspoint (R70, R90, R91, R158). -/
def askSafetyOpen (asker : Asker) (r c : Nat) (h : Hall) : Hall :=
  askMove { row := r, col := c, close := false, safety := true, askers := [asker] } h

/-- The asker of a route's moves (R70). -/
def routeAsker (t : Nat) (isLocal : Bool) : Asker := if isLocal then .localRoute t else .route t

/-- The carriage controller is told that a route is done; a local route's end is told to no one (R78, R80). -/
def tellRouteDone (t a : Nat) (isLocal : Bool) (h : Hall) : Hall :=
  if isLocal then h else raise (.routeDone t a) h

/-- The carriage controller is told why a route request failed (R79). -/
def tellRouteFailed (t : Nat) (q : RouteRequest) (why : RouteFailure) (h : Hall) : Hall :=
  match q.column with
  | some a => if q.isLocal then h else raise (.routeFailed t a why) h
  | none => h

/-- Steps 4 and 5 of R78: with no open left the close is placed, or the route done. -/
def routeStep (t : Nat) (h : Hall) : Hall :=
  match h.route t with
  | none => h
  | some q =>
    if !q.opens.isEmpty || q.placed then h
    else match q.column with
      | none => h.setRoute t none
      | some a =>
        if h.xp t a = .closed then tellRouteDone t a q.isLocal (h.setRoute t none)
        else
          askMove { row := t, col := a, close := true, safety := false, askers := [routeAsker t q.isLocal] }
            (h.setRoute t (some { q with placed := true }))

/-- The opens of step 3 of R78: a row's CLOSED or CLOSING crosspoints other than the column's. -/
def rowOpens (h : Hall) (t : Nat) (column : Option Nat) : List RowCol :=
  (allCols.filter fun c => column != some c && (h.xp t c == .closed || h.xp t c == .closing)).map fun c =>
    { row := t, col := c }

/-- The opens of step 3 of R78: a column's CLOSED crosspoints in other rows. -/
def columnOpens (h : Hall) (t a : Nat) : List RowCol :=
  ((closedRows h a).filter (· != t)).map fun r => { row := r, col := a }

/-- A route is begun: its opens asked for, and the close when none is needed (R78 steps 3 and 4). -/
def beginRoute (t : Nat) (column : Option Nat) (isLocal : Bool) (opens : List RowCol) (h : Hall) : Hall :=
  let h := h.setRoute t (some { column := column, opens := opens, placed := false, isLocal := isLocal })
  let h := opens.foldl (fun h x =>
    askMove { row := x.row, col := x.col, close := false, safety := false, askers := [routeAsker t isLocal] } h) h
  routeStep t h

/-- A route request of a carriage for the column it claims (R78). -/
def askRoute (t a : Nat) (h : Hall) : Hall :=
  let h := withdrawRoute t h
  if rowRoute h t = some a then raise (.routeDone t a) h
  else if rowBlocked h t then raise (.routeFailed t a .rowBlocked) h
  else if colBlocked h a then raise (.routeFailed t a .columnBlocked) h
  else beginRoute t (some a) false (rowOpens h t (some a) ++ columnOpens h t a) h

/-- The refusals of a local route in order (R80); a move that waits for room in the queue counts as queued (log 52). -/
def localRouteRefusal (e : Env) (h : Hall) (t : Nat) (column : Option Nat) : Option ResultCode :=
  if rowLive e h t then some .interlock
  else if column.any fun a => !(e.antConfig a).present then some .range
  else if column.any fun a => (h.antenna a).lock != .free then some .locked
  else if rowBlocked h t || column.any (colBlocked h) then some .blocked
  else if column.any (fun a => (h.claim a).isSome || (colRoute h a).any (· != t)) ||
      (h.matrix.queue ++ h.matrix.overflow).any (·.row == t) || !(movingCols h t).isEmpty then some .busy
  else none

/-- A local route that passes (R80). -/
def askLocalRoute (t : Nat) (column : Option Nat) (h : Hall) : Hall :=
  beginRoute t column true (rowOpens h t column) (withdrawRoute t h)

/-- One transmitter's route request after a crosspoint has opened (R78 step 4). -/
def routeSawOpen (r c t : Nat) (h : Hall) : Hall :=
  match h.route t with
  | none => h
  | some q =>
    if q.opens.any (fun x => x.row == r && x.col == c) then
      routeStep t (h.setRoute t (some { q with opens := q.opens.filter fun x => !(x.row == r && x.col == c) }))
    else h

/-- The slot of a moving crosspoint frees (R68, R73). -/
def freeSlot (r c : Nat) (h : Hall) : Hall :=
  h.mapMatrix fun m =>
    { m with slots := m.slots.map fun x => if x.any (·.move.isOf r c) then none else x }

/-- A move ends with its crosspoint OPEN (R68, R78). -/
def moveOpened (r c : Nat) (h : Hall) : Hall :=
  forEach allRows (routeSawOpen r c) (freeSlot r c (h.setXp r c .opened))

/-- A move ends with its crosspoint CLOSED: the route is done, and a safety open held against the close is placed (R68, R70, R78). -/
def moveClosed (r c : Nat) (h : Hall) : Hall :=
  let h := freeSlot r c (h.setXp r c .closed)
  let opens := h.matrix.heldOpens.filter (·.isOf r c)
  let h := h.mapMatrix fun m => { m with heldOpens := m.heldOpens.filter (!·.isOf r c) }
  let h := match h.route r with
    | some q => if q.placed && q.column == some c then tellRouteDone r c q.isLocal (h.setRoute r none) else h
    | none => h
  opens.foldl (fun h m => askMove m h) h

/-- A route request in a blocked row or column fails (R74, R79); a local route fails as a whole too, its queued opens removed (the model's choice, log 65). -/
def failRoute (r c t : Nat) (h : Hall) : Hall :=
  match h.route t with
  | none => h
  | some q =>
    if t = r then tellRouteFailed t q .rowBlocked (withdrawRoute t h)
    else if q.column = some c then tellRouteFailed t q .columnBlocked (withdrawRoute t h)
    else h

/-- What follows when a crosspoint has become STUCK: queue, requests, and the carriages of its row and column (R74). -/
def becameStuck (r c : Nat) (h : Hall) : Hall :=
  let stays := fun (m : Move) => !(m.isOf r c) && !(m.close && (m.row == r || m.col == c))
  let h := h.mapMatrix fun m =>
    { m with queue := m.queue.filter stays, overflow := m.overflow.filter stays
             heldOpens := m.heldOpens.filter (!·.isOf r c) }
  let h := forEach allRows (failRoute r c) h
  let h := if (h.carriage r).isSome then raise (.rowBlocked r) h else h
  match h.claim c with
  | some t => if t = r then h else raise (.columnBlocked t c) h
  | none => h

/-- A crosspoint becomes STUCK and STUCK is posted with its number (R65, R69, R73, R89). -/
def setStuck (e : Env) (r c : Nat) (h : Hall) : Hall :=
  post e .stuck (r * Config.columns + c) (h.setXp r c .stuck)

/-- A live transmitter on a line that meets a contradiction has RF taken down, and its carriage is cut (R69). -/
def takeDown (e : Env) (t : Nat) (h : Hall) : Hall :=
  if rowLive e h t then raise (.cut t) (rfOff e t h) else h

/-- A contradiction (R69). -/
def contradiction (e : Env) (r c : Nat) (h : Hall) : Hall :=
  let h := setStuck e r c h
  let h := h.setAntenna c fun a => { a with lock := if a.lock = .locked then .pending else a.lock }
  let h := takeDown e r h
  let h := match colRoute h c with
    | some t => takeDown e t h
    | none => h
  becameStuck r c h

/-- A contact report outside the survey, its reading already set, taken by the crosspoint's state (R68 Table 15). -/
def takeContact (e : Env) (r c : Nat) (reading : Reading) (h : Hall) : Hall :=
  let x := h.xp r c
  if (x = .opened ∧ reading ≠ .opened) ∨ (x = .closed ∧ reading ≠ .closed) then contradiction e r c h
  else if x = .closing ∧ reading = .closed then moveClosed r c h
  else if x = .opening ∧ reading = .opened then moveOpened r c h
  else h

/-- A move's timer reaches its limit (R73). -/
def moveExpired (e : Env) (r c : Nat) (h : Hall) : Hall :=
  if (h.xp r c).moving then
    becameStuck r c (setStuck e r c (send (.halt r c) (freeSlot r c h)))
  else h

/-! ## Claims (R76, R77) -/

/-- The column a transmitter claims. -/
def claimOf (h : Hall) (t : Nat) : Option Nat := allCols.find? fun a => h.claim a == some t

/-- A claim is released, with its route and setting requests (R77). -/
def releaseClaim (t a : Nat) (h : Hall) : Hall :=
  let h := withdrawRoute t (h.setClaim a none)
  h.setAntenna a fun x => { x with wanted := none, change := x.change.map fun c => { c with sentBy := none } }

/-- Whatever claim a transmitter holds is released. -/
def releaseAny (t : Nat) (h : Hall) : Hall :=
  match claimOf h t with
  | some a => releaseClaim t a h
  | none => h

/-- A claim asked for by the carriage controller: refused, it leaves every claim as it was; granted, a claim on another column moves (R76). -/
def grantClaim (e : Env) (t a : Nat) (h : Hall) : Hall :=
  if (claimAnswer e h t a).isSome || h.claim a == some t then h else (releaseAny t h).setClaim a (some t)

/-! ## Settings (R84 to R87) -/

/-- The SUSPECT mark set, posted when new (R87). -/
def markSuspect (e : Env) (a : Nat) (h : Hall) : Hall :=
  if (h.antenna a).suspect then h
  else post e .suspect a (h.setAntenna a fun x => { x with suspect := true })

/-- A setting request of the transmitter that claims the column (R84). -/
def askSetting (e : Env) (t a : Nat) (s : Setting) (h : Hall) : Hall :=
  if h.claim a ≠ some t || !admits (e.antConfig a) s then h
  else if (h.antenna a).change.isNone && (h.antenna a).setting = some s then raise (.settingDone t a s) h
  else h.setAntenna a fun x => { x with wanted := some s }

/-- A pending setting is sent once the setting state is SETTLED and the column carries no RF (R84). The limit of the change is worked out now, a setting time written while it runs does not change it (R85; the model's choice, log 74). -/
def sendSetting (e : Env) (a : Nat) (h : Hall) : Hall :=
  match (h.antenna a).wanted with
  | none => h
  | some s =>
    if a = Config.testLoad || (h.antenna a).change.isSome || !columnSilent e h a then h
    else
      send (.setAntenna a s) <| h.setAntenna a fun x =>
        { x with setting := none, wanted := none
                 change := some { target := s, limit := e.after (((e.antConfig a).settingTime + 10) * 1000)
                                  sentBy := h.claim a } }

/-- The claimant for whom a change was sent is told how it ended (R85; log 27). -/
def tellSetting (a : Nat) (c : SettingChange) (reached : Bool) (h : Hall) : Hall :=
  match c.sentBy with
  | some t =>
    if h.claim a = some t then
      if reached then raise (.settingDone t a c.target) h else raise (.settingFailed t a) h
    else h
  | none => h

/-- A setting fault: posted, the antenna marked SUSPECT (R85, R86). -/
def settingFault (e : Env) (a : Nat) (h : Hall) : Hall := markSuspect e a (post e .settingFault a h)

/-- A setting completion report (R85, R86). -/
def settingReported (e : Env) (a : Nat) (s : Setting) (h : Hall) : Hall :=
  if Config.testLoad ≤ a then h
  else
    let old := h.antenna a
    let h := h.setAntenna a fun x => { x with setting := some s, change := none }
    match old.change with
    | some c => if s = c.target then tellSetting a c true h else tellSetting a c false (settingFault e a h)
    | none => if old.setting.isNone || old.setting = some s then h else settingFault e a h

/-- The setting timer reaches its limit (R85). -/
def settingExpired (e : Env) (a : Nat) (h : Hall) : Hall :=
  match (h.antenna a).change with
  | none => h
  | some c =>
    tellSetting a c false (settingFault e a (h.setAntenna a fun x => { x with setting := none, change := none }))

/-! ## Locks (R79, R83) -/

/-- A LOCK_PENDING column becomes LOCKED at the first moment it holds nothing (R83). -/
def completeLock (e : Env) (a : Nat) (h : Hall) : Hall :=
  if (h.antenna a).lock = .pending && columnEmpty h a then
    post e .locked a (h.setAntenna a fun x => { x with lock := .locked })
  else h

/-- A route request into a column that is being locked fails, unless its close has started (R79, R158); a local route only when its close was queued (R160; log 34). The opens of a carriage's request stay queued until its claim is withdrawn (R158). -/
def failLocked (a t : Nat) (h : Hall) : Hall :=
  match h.route t with
  | some q =>
    if q.column = some a && !(q.placed && h.xp t a == .closing) then
      if q.isLocal then (if q.placed then withdrawRoute t h else h)
      else tellRouteFailed t q .columnLocked (h.setRoute t none)
    else h
  | none => h

/-- A column's lock state leaves FREE: queued closes into it, those that wait for room too (log 12), are removed and their requests fail (R79, R83, R158, R160), by ascending transmitter (log 62). -/
def leaveFree (lock : LockState) (a : Nat) (h : Hall) : Hall :=
  let h := h.setAntenna a fun x => { x with lock := lock }
  let h := forEach allRows (failLocked a) h
  h.mapMatrix fun m =>
    { m with queue := m.queue.filter fun x => !(x.close && x.col == a)
             overflow := m.overflow.filter fun x => !(x.close && x.col == a) }

/-- A column becomes LOCK_PENDING (R158, R159, R160). -/
def makePending (a : Nat) (h : Hall) : Hall := leaveFree .pending a h

/-- A safety open of every CLOSED crosspoint of a column, held against one that is CLOSING (R158, R160). -/
def openColumn (asker : Asker) (a : Nat) (h : Hall) : Hall :=
  forEach (allRows.filter fun t => h.xp t a == .closed || h.xp t a == .closing) (fun t => askSafetyOpen asker t a) h

/-! ## Giving the slots (R71, R72, R73) -/

/-- A queued move's start conditions hold (R71); a crosspoint that is moving is waited for (log 10). -/
def canStart (e : Env) (h : Hall) (m : Move) : Bool :=
  !rowLive e h m.row && !(h.xp m.row m.col).moving &&
  (!m.close ||
    ((allCols.all fun c => h.xp m.row c == .opened || h.xp m.row c == .opening) &&
     (allRows.all fun t => h.xp t m.col == .opened || h.xp t m.col == .opening) &&
     columnReady e h m.col &&
     (h.claim m.col == some m.row || m.askers.any fun x => x != .route m.row)))

/-- The lowest free drive slot (log 25). -/
def freeSlotNumber (h : Hall) : Option Nat :=
  (List.range Config.driveSlots).find? fun i => (read h.matrix.slots i).isNone

/-- A move is given a slot and starts (R73). Its timer's limit is worked out now, a travel written while it runs does not change it (the model's choice, log 74). -/
def startMove (e : Env) (i : Nat) (m : Move) (h : Hall) : Hall :=
  let h := h.mapMatrix fun x =>
    { x with queue := x.queue.filter fun q => !(q.isOf m.row m.col && q.close == m.close)
             slots := write x.slots i (some { move := m, limit := e.after ((e.config.hall.travel + 4) * 1000) }) }
  send (.drive m.row m.col m.close) (h.setXp m.row m.col (if m.close then .closing else .opening))

/-- A free slot goes to the first queued move that can start, until none is free or none can (R72). -/
def giveSlots (e : Env) : Nat → Hall → Hall
  | 0, h => h
  | n + 1, h =>
    match freeSlotNumber h, h.matrix.queue.find? (canStart e h) with
    | some i, some m => giveSlots e n (drainOverflow (startMove e i m h))
    | _, _ => h

/-- What the matrix and the sequencer do by themselves when conditions come to hold: RF enable (R97), locks (R83), settings (R84), slots (R72). Columns that become LOCKED in one pass are posted in ascending order (log 45). During the survey no lock is completed, no setting sent and no slot given (R89; log 7). -/
def matrixPass (e : Env) (h : Hall) : Hall :=
  let h := enforceRf e h
  if h.matrix.survey.isSome then h
  else
    let h := forEach allCols (completeLock e) h
    let h := forEach allCols (sendSetting e) h
    giveSlots e Config.driveSlots (drainOverflow h)

end Sys2Proof.Machine
end

