-- ==== Sys2Proof/Machine/Lookahead.lean ====
section
/-! DEFINITION. The lookahead unit: cue order (R44), prediction and lead (R56 to R61), carry-over (R63), refresh, rescan and minute scan with the capacity of the list (R45 to R52), readmission (R53), changes the carriage controller asks for (R54). -/

namespace Sys2Proof.Machine

/-! ## Order (R44) -/

/-- The order of cues in the list: due, kind, transmitter, booking, day. -/
def Cue.before (a b : Cue) : Bool :=
  if a.due ≠ b.due then a.due < b.due
  else if a.kind ≠ b.kind then a.kind.ctorIdx < b.kind.ctorIdx
  else if a.transmitter ≠ b.transmitter then a.transmitter < b.transmitter
  else if a.booking ≠ b.booking then a.booking < b.booking
  else a.day < b.day

/-- A cue is of this occurrence. -/
def Cue.isOf (c : Cue) (number day : Nat) : Bool := c.booking == number && c.day == day

/-! ## The prediction sequence (R56) -/

/-- An occurrence of the prediction sequence; fresh when its cues are still to be made. -/
structure Item where
  booking   : Nat
  day       : Nat
  start     : Nat
  stop      : Nat
  frequency : Nat
  antenna   : Nat
  setting   : Setting
  fresh     : Bool
  readmit   : Bool
  deriving DecidableEq, Repr

/-- The clock and the hall mode let occurrences be admitted (R45, first condition). -/
def admitting (e : Env) : Bool := !e.unset && e.mode != .configuring

/-- An occurrence stands in the readmission list (R53). -/
def isReadmitted (h : Hall) (number day : Nat) : Bool :=
  h.lookahead.readmit.any fun o => o.booking == number && o.day == day

/-- A first cue: a PREPARE, or the carry START of an occurrence that has none (R45). -/
def Cue.isFirst (c : Cue) : Bool := c.kind == .prepare || c.carry

/-- An occurrence with cues in a list counts as taken: its first cue has left the list, since that cue leaves it when it is taken and not before (R47). -/
def isTaken (cues : List Cue) (number day : Nat) : Bool := !cues.any fun c => c.isOf number day && c.isFirst

/-- The occurrence of fields on a day, taken on the main antenna as booked (R56). -/
def itemOf (b : Offered) (day : Nat) (fresh readmit : Bool) : Item where
  booking := b.number
  day := day
  start := startOn b day
  stop := endOn b day
  frequency := b.frequency
  antenna := b.antenna
  setting := b.setting
  fresh := fresh
  readmit := readmit

/-- The first four conditions of R45. -/
def admissible (e : Env) (h : Hall) (t : Nat) (b : Booking) (day : Nat) : Bool :=
  admitting e && b.state == .active && b.fields.transmitter == t && day ≤ Config.lastDay &&
  (carriesFresh h.calendar.entries b day || isReadmitted h b.fields.number day)

/-- Days on which an occurrence may lie that is not over and whose first cue can come within the horizon: yesterday, today, tomorrow, and the day a readmission names. -/
def candidateDays (e : Env) (h : Hall) (number : Nat) : List Nat :=
  (((if e.clock.day = 0 then [] else [e.clock.day - 1]) ++ [e.clock.day, e.clock.day + 1]) ++
    (h.lookahead.readmit.filter (·.booking == number)).map (·.day)).eraseDups

/-- The occurrences of a transmitter that are not taken and not over (R56, second point). -/
def freshItems (e : Env) (h : Hall) (t : Nat) : List Item :=
  h.table.records.flatMap fun b =>
    if b.fields.transmitter = t then
      ((candidateDays e h b.fields.number).filter fun d =>
        admissible e h t b d && e.now < endOn b.fields d).map fun d =>
          itemOf b.fields d true (isReadmitted h b.fields.number d)
    else []

/-- The occurrence of a carriage, with what the carriage holds (R56, R57). -/
def carriageItem (c : Carriage) : Item where
  booking := c.booking
  day := c.day
  start := c.start
  stop := c.stop
  frequency := c.frequency
  antenna := c.antenna
  setting := c.setting
  fresh := false
  readmit := false

/-- The prediction sequence of a transmitter (R56; log 9). An occurrence readmitted while its old carriage or entry still stands is in it once. -/
def sequence (e : Env) (h : Hall) (t : Nat) : List Item :=
  let fresh := freshItems e h t
  let again := fun (i : Item) => fresh.any fun f => f.booking == i.booking && f.day == i.day
  let carriage := ((h.carriage t).map carriageItem).toList.filter (!again ·)
  let waiting := ((h.waitingList t).filterMap fun w =>
    (h.booking w.booking).map fun b => itemOf b.fields w.day false false).filter (!again ·)
  let before := fun (a b : Item) => a.start < b.start || (a.start == b.start && a.booking < b.booking)
  if waiting.isEmpty then sortBy before (carriage ++ fresh) else carriage ++ waiting ++ sortBy before fresh

/-! ## The lead (R57 to R60) -/

/-- The predicted setting of an occurrence's main antenna (R57). -/
def predictedSetting (h : Hall) (pred : Option Item) (target : Nat) : Option Setting :=
  match pred with
  | some p => if p.antenna = target then some p.setting
      else if (h.antenna target).change.isSome then none else (h.antenna target).setting
  | none => if (h.antenna target).change.isSome then none else (h.antenna target).setting

/-- The switch component w (R59). -/
def switchTime (travel : Nat) (route : Option Nat) (target : Nat) : Nat :=
  match route with
  | none => travel
  | some a => if a = target then 0 else 2 * travel

/-- The setting component a (R59). -/
def settingTime (c : AntConfig) (predicted : Option Setting) (wanted : Setting) : Nat :=
  if predicted = some wanted then 0 else c.settingTime

/-- The lead before the RF-down allowance, not yet held at 900 (R60). -/
def rawLead (e : Env) (h : Hall) (t : Nat) (pred : Option Item) (i : Item) : Nat :=
  let tuned := match pred with
    | some p => some p.frequency
    | none => (h.tx t).tuned
  let route := match pred with
    | some p => some p.antenna
    | none => rowRoute h t
  e.config.hall.margin +
    max (tuneTime (e.txConfig t) tuned i.frequency)
      (max (switchTime e.config.hall.travel route i.antenna)
        (settingTime (e.antConfig i.antenna) (predictedSetting h pred i.antenna) i.setting))

/-- Due time and predicted lateness of a PREPARE (R61): end of the predecessor, RF-down time, r′, lead, start, now. -/
def placePrepare (ends r r' lead start now : Nat) : Nat × Nat :=
  let placed := if ends + r + lead ≤ start then (start - lead, 0) else (ends, ends + r + lead - start)
  if placed.1 < now then (now, now + r' + lead - start) else placed

/-- Due time and predicted lateness of a readmitted PREPARE (R53). -/
def placeReadmitted (ends r r' lead start now : Nat) : Nat × Nat :=
  if now < ends then (ends, ends + r + lead - start) else (now, now + r' + lead - start)

/-- An occurrence is a carry-over of its predecessor (R63). -/
def carriesOver (pred : Option Item) (i : Item) : Bool :=
  !i.readmit && pred.any fun p =>
    i.start == p.stop && i.antenna == p.antenna && i.setting == p.setting && i.frequency == p.frequency

/-! ## Cues of an occurrence (R61, R63) -/

/-- The cues of one occurrence, its first cue at the head. -/
structure Group where
  booking : Nat
  day     : Nat
  cues    : List Cue
  made    : Bool
  deriving DecidableEq, Repr

/-- The cues of an occurrence after its predecessor in the prediction (R50 step 2). -/
def makeGroup (e : Env) (h : Hall) (t : Nat) (pred : Option Item) (i : Item) (said : Said) : Group :=
  let cue := fun (kind : CueKind) (due lead lateness : Nat) (clamped carry : Bool) =>
    { kind := kind, due := due, transmitter := t, booking := i.booking, day := i.day, lead := lead, lateness := lateness
      clamped := clamped, carry := carry, said := said : Cue }
  let stop := cue .stop i.stop 0 0 false false
  if carriesOver pred i then
    { booking := i.booking, day := i.day, made := true, cues := [cue .start i.start 0 0 false true, stop] }
  else
    let raw := rawLead e h t pred i
    let lead := min raw Config.longestLead
    let r := (e.txConfig t).rfDown
    let r' := if e.rfPresent t then r else 0
    let ends := match pred with
      | some p => p.stop
      | none => 0
    let placed := if i.readmit then placeReadmitted ends r r' lead i.start e.now
      else placePrepare ends r r' lead i.start e.now
    { booking := i.booking, day := i.day, made := true
      cues := [cue .prepare placed.1 lead (min placed.2 Config.largestLateness) (Config.longestLead < raw) false,
               cue .start i.start 0 0 false false, stop] }

/-- The reported field of an occurrence's cues in the list, empty for one seen for the first time (R50 step 3). -/
def saidOf (h : Hall) (number day : Nat) : Said :=
  match h.lookahead.cues.find? (·.isOf number day) with
  | some c => c.said
  | none => { late := false, clamped := false }

/-- The cues of every fresh occurrence along the prediction sequence. -/
def walk (e : Env) (h : Hall) (t : Nat) : Option Item → List Item → List Group
  | _, [] => []
  | pred, i :: rest =>
    if i.fresh then makeGroup e h t pred i (saidOf h i.booking i.day) :: walk e h t (some i) rest
    else walk e h t (some i) rest

/-- The first cue of an occurrence: its PREPARE, or its carry START (R45). -/
def Group.first (g : Group) : Option Cue :=
  match g.cues.find? Cue.isFirst with
  | some c => some c
  | none => g.cues.head?

/-- When an occurrence's first cue is due. -/
def Group.firstDue (g : Group) : Nat := (g.first.map (·.due)).getD 0

/-- The end of the horizon (R45). -/
def horizonEnd (e : Env) : Nat := e.now + e.config.hall.horizon * 60

/-- The occurrences of a transmitter that R45 admits, with their cues. -/
def admitted (e : Env) (h : Hall) (t : Nat) : List Group :=
  (walk e h t none (sequence e h t)).filter (·.firstDue ≤ horizonEnd e)

/-! ## The list made again (R46, R50) -/

/-- Cues gathered by occurrence. -/
def groupsOf (cues : List Cue) : List Group :=
  ((cues.map fun c => ({ booking := c.booking, day := c.day } : Occurrence)).eraseDups).map fun o =>
    { booking := o.booking, day := o.day, made := false, cues := cues.filter (·.isOf o.booking o.day) }

/-- A group of this occurrence is in a list. -/
def hasGroup (l : List Group) (g : Group) : Bool := l.any fun x => x.booking == g.booking && x.day == g.day

/-- Cues of bookings in the table, each with the transmitter of the booking's current fields (R43, R50). -/
def currentCues (h : Hall) : List Cue :=
  h.lookahead.cues.filterMap fun c =>
    (h.booking c.booking).map fun b => { c with transmitter := b.fields.transmitter }

/-- Occurrences admitted in order of their first cues while all their cues fit; the first that does not fit and all after it are left out (R46). -/
def fit : Nat → List Group → List Group × List Group
  | _, [] => ([], [])
  | room, g :: rest =>
    if g.cues.length ≤ room then ((g :: (fit (room - g.cues.length) rest).1), (fit (room - g.cues.length) rest).2)
    else ([], g :: rest)

/-- Groups in the order of their first cues (R46). -/
def Group.before (a b : Group) : Bool :=
  match a.first, b.first with
  | some x, some y => x.before y
  | _, _ => false

/-- How much of a transmitter's list a scan makes again: nothing; every occurrence not yet due (R50); or only what the list lacks, every cue that is there keeping its place (R35, R46; log 38). -/
inductive Remake where
  | nothing
  | notDue
  | lacking
  deriving DecidableEq, Repr

/-- A group of cues stands as it is in a refresh of its transmitter: it is due already (R50 step 1); a booking, day or mode that no longer admits it takes its cues out of the list, its end does not (R34, R50; log 42). -/
def Group.stands (e : Env) (h : Hall) (t : Nat) (g : Group) : Bool :=
  g.firstDue ≤ e.now && (h.booking g.booking).any fun b => admissible e h t b g.day

/-- What a scan finds for one transmitter to be admitted as room allows: the groups that stand, and those made now (R50 steps 1 and 2); with the shortage flag set, what any other transmitter could admit too, whether a scan left it out or the horizon has reached it since (R46; log 40). Where only what the list lacks is made, that alone: what is there is kept outright (R35; log 38). -/
def groupsFor (e : Env) (h : Hall) (cues : List Cue) (how : Remake) (t : Nat) : List Group :=
  let own := cues.filter fun c => c.transmitter == t
  let taken := groupsOf (own.filter fun c => isTaken cues c.booking c.day)
  let old := groupsOf (own.filter fun c => !isTaken cues c.booking c.day)
  let stand := if how = .notDue then old.filter (Group.stands e h t) else old
  let made := (admitted e h t).filter (!hasGroup (stand ++ taken) ·)
  match how with
  | .nothing => if h.lookahead.short then stand ++ made else stand
  | .notDue => stand ++ made
  | .lacking => made

/-- A cue's reported field after postings for its occurrence (R50 step 4). -/
def addSaid (number day : Nat) (late clamped : Bool) (x : Cue) : Cue :=
  if x.isOf number day then { x with said := { late := x.said.late || late, clamped := x.said.clamped || clamped } } else x

/-- One new PREPARE's postings, each once for its occurrence (R50 step 4, R62). -/
def postPrepare (e : Env) (c : Cue) (h : Hall) : Hall :=
  let late := 0 < c.lateness && !c.said.late
  let clamped := c.clamped && !c.said.clamped
  let h := if late then post e .late c.booking h else h
  let h := if clamped then post e .leadClamped c.booking h else h
  h.mapLookahead fun l => { l with cues := l.cues.map (addSaid c.booking c.day late clamped) }

/-- The shortage flag, and CUES_SHORT when it is set (R46). -/
def setShort (e : Env) (leftOut : List Group) (h : Hall) : Hall :=
  if leftOut.isEmpty then h.mapLookahead fun l => { l with short := false }
  else if h.lookahead.short then h
  else post e .cuesShort (leftOut.map (·.cues.length)).sum (h.mapLookahead fun l => { l with short := true })

/-- The cues of each transmitter made again as far as is asked (R50), within the capacity of the list (R46): the cues of taken occurrences are kept first, and where only what the list lacks is made every other cue beside them, so that at a backward clock step what is newly found takes the room that is left (R35; log 38). Nothing is scanned during the survey (R179; log 7). -/
def remake (e : Env) (how : Nat → Remake) (h : Hall) : Hall :=
  if h.matrix.survey.isSome then h
  else
    let cues := currentCues h
    let keep := cues.filter fun c => isTaken cues c.booking c.day || how c.transmitter == .lacking
    let groups := allRows.flatMap fun t => groupsFor e h cues (how t) t
    let fits := fit (Config.cueCapacity - keep.length) (sortBy Group.before groups)
    let h := h.mapLookahead fun l => { l with cues := sortBy Cue.before (keep ++ fits.1.flatMap (·.cues)) }
    let remade := groups.filter fun g => g.made && hasGroup fits.1 g
    let h := setShort e fits.2 h
    (remade.flatMap fun g => g.cues.filter (·.kind == .prepare)).foldl (fun h c => postPrepare e c h) h

/-- Some transmitters refreshed together, the others' cues kept (R50, R51). -/
def scan (e : Env) (ts : List Nat) (h : Hall) : Hall := remake e (fun t => if ts.contains t then .notDue else .nothing) h

/-- A refresh of one transmitter (R50). -/
def refresh (e : Env) (t : Nat) (h : Hall) : Hall := scan e [t] h

/-- A rescan (R52). -/
def rescan (e : Env) (h : Hall) : Hall := scan e allRows h

/-- What the list lacks is admitted as far as room allows, and nothing in it moves or leaves. -/
def admitLacking (e : Env) (h : Hall) : Hall := remake e (fun _ => .lacking) h

/-- The rescan of a backward clock step, which removes nothing from the list and moves no cue in it (R35, R52; log 38). -/
def rescanBack (e : Env) (h : Hall) : Hall := admitLacking e h

/-- Left-out occurrences are admitted as far as room allows, while the shortage flag is set and a cue has left the list (R46; log 40). -/
def refill (e : Env) (h : Hall) : Hall := if h.lookahead.short then admitLacking e h else h

/-- An occurrence's end under its booking's current fields is now or earlier, or its booking is gone. -/
def isOver (e : Env) (h : Hall) (number day : Nat) : Bool :=
  (h.booking number).all fun b => endOn b.fields day ≤ e.now

/-- The minute scan (R49), and hall control's look at the resume list (R168); during the survey it does nothing (log 7). -/
def minuteScan (e : Env) (h : Hall) : Hall :=
  if !admitting e || h.matrix.survey.isSome then h
  else
    let h := h.mapLookahead fun l => { l with readmit := l.readmit.filter fun o => !isOver e h o.booking o.day }
    let h := { h with resume := h.resume.filter fun r => !isOver e h r.booking r.day }
    let listed := groupsOf h.lookahead.cues
    let ts := allRows.filter fun t => (admitted e h t).any (!hasGroup listed ·)
    if ts.isEmpty then h else scan e ts h

/-! ## Requests (R53, R54) -/

/-- A readmission request (R53). -/
def readmit (e : Env) (number day : Nat) (h : Hall) : Hall :=
  match h.booking number with
  | none => h
  | some b =>
    if endOn b.fields day ≤ e.now then h
    else if isReadmitted h number day then refresh e b.fields.transmitter h
    else
      refresh e b.fields.transmitter <| h.mapLookahead fun l =>
        { l with readmit := l.readmit.filter (·.booking != number) ++ [{ booking := number, day := day }]
                 cues := l.cues.filter (!·.isOf number day) }

/-- The STOP of a taken occurrence is moved (R54). -/
def moveStop (e : Env) (t number day due : Nat) (h : Hall) : Hall :=
  if h.lookahead.cues.any fun c => c.isOf number day && c.kind == .stop then
    let moved := fun (c : Cue) => if c.isOf number day && c.kind == .stop then { c with due := due } else c
    refresh e t (h.mapLookahead fun l => { l with cues := sortBy Cue.before (l.cues.map moved) })
  else h

/-- The remaining cues of an occurrence are dropped; with none left the request is discarded (R54). -/
def dropCues (e : Env) (t number day : Nat) (h : Hall) : Hall :=
  if h.lookahead.cues.any (·.isOf number day) then
    refresh e t <| h.mapLookahead fun l => { l with cues := l.cues.filter (!·.isOf number day) }
  else h

/-- The first cue that is due, with the list without it (R47); none falls due while the clock is UNSET, nor during the survey (log 7). -/
def takeDue (e : Env) (h : Hall) : Option (Cue × Hall) :=
  if e.unset || h.matrix.survey.isSome then none
  else match h.lookahead.cues with
    | [] => none
    | c :: rest => if c.due ≤ e.now then some (c, h.mapLookahead fun l => { l with cues := rest }) else none

end Sys2Proof.Machine
end

