-- ==== Sys2Proof/Machine/Table.lean ====
section
/-! DEFINITION. The booking table as a collection (R4, R5), its outcomes and retirement (R23, R24), and the calendar's removal tests (R40). -/

namespace Sys2Proof.Machine

/-- The nearly-full test (R5). -/
def nearlyFullTest (e : Env) (h : Hall) : Hall :=
  let free := Config.tableCapacity - h.table.records.length
  if e.config.hall.nearlyFull < free then { h with table := { h.table with armed := true } }
  else if h.table.armed then
    post e .tableNearlyFull free { h with table := { h.table with armed := false } }
  else h

/-- An entry may leave the calendar by itself: its season has ended and no booking names it (R40). -/
def removable (e : Env) (h : Hall) (season : Nat) : Bool := seasonEnded e h season && namesOf h season == 0

/-- The live season of today found anew, also while the clock is UNSET (R37). -/
def findLive (e : Env) (h : Hall) : Hall :=
  { h with calendar := { h.calendar with live := liveOn h.calendar.entries e.clock.day } }

/-- The calendar's removal test for one season; it does not change the live season (R40). -/
def seasonTest (e : Env) (season : Nat) (h : Hall) : Hall :=
  if removable e h season then
    { h with calendar := { h.calendar with entries := h.calendar.entries.filter (·.id != season) } }
  else h

/-- The calendar's removal test for every entry; it does not change the live season (R40). -/
def calendarTest (e : Env) (h : Hall) : Hall :=
  { h with calendar := { h.calendar with entries := h.calendar.entries.filter fun s => !removable e h s.id } }

/-- A record joins the table in its place (R4), as ENTER sets it (R1, R17). -/
def addBooking (e : Env) (b : Offered) (h : Hall) : Hall :=
  let less := fun (x y : Booking) => decide (x.fields.number < y.fields.number)
  let h := { h with table := { h.table with
    records := insertBy less { fields := b, state := .active, lastRun := none, outcome := .none } h.table.records } }
  nearlyFullTest e (refresh e b.transmitter h)

/-- A record's supplied fields replaced, the rest kept but the state ACTIVE, and the transmitters told (R4, R19). -/
def replaceBooking (e : Env) (b : Offered) (h : Hall) : Hall :=
  match h.booking b.number with
  | none => h
  | some old =>
    let h := h.mapBooking b.number fun r => { r with fields := b, state := .active }
    scan e [b.transmitter, old.fields.transmitter] h

/-- Records leave the table together, with their readmission and resume entries; the transmitters and the calendar are told (R4, R51, R168). -/
def removeBookings (e : Env) (gone : List Booking) (h : Hall) : Hall :=
  let left := fun (n : Nat) => gone.any (·.fields.number == n)
  let h := { h with
    table := { h.table with records := h.table.records.filter (!left ·.fields.number) }
    lookahead := { h.lookahead with readmit := h.lookahead.readmit.filter (!left ·.booking) }
    resume := h.resume.filter (!left ·.booking) }
  let h := scan e (gone.map (·.fields.transmitter)) h
  gone.foldl (fun h b => seasonTest e b.fields.season h) h

/-- One record leaves the table, and the nearly-full test is made (R20, R155). -/
def removeBooking (e : Env) (number : Nat) (h : Hall) : Hall :=
  match h.booking number with
  | none => h
  | some b => nearlyFullTest e (removeBookings e [b] h)

/-- The retirement test over some records (R24); a carriage serves the record of its booking's number (log 63). -/
def retire (e : Env) (tested : List Booking) (h : Hall) : Hall :=
  let gone := tested.filter fun b => seasonEnded e h b.fields.season && (h.servedBy b.fields.number).isNone
  if gone.isEmpty then h
  else nearlyFullTest e (removeBookings e gone (post e .retired gone.length h))

/-- The last run day set when an occurrence is taken; it is never set back (R23). -/
def setLastRun (number day : Nat) (h : Hall) : Hall :=
  h.mapBooking number fun b => { b with lastRun := some (max day (b.lastRun.getD 0)) }

/-- The last outcome written (R23); a number not in the table is discarded. A record entered anew under the number takes the write (the model's choice, log 63). -/
def writeOutcome (number : Nat) (o : RunOutcome) (h : Hall) : Hall :=
  h.mapBooking number fun b => { b with outcome := o }

/-- An outcome settled: written, and MISSED or CUT posted (R114). -/
def settleOutcome (e : Env) (number : Nat) (o : RunOutcome) (h : Hall) : Hall :=
  let h := writeOutcome number o h
  if o = .missed then post e .missed number h
  else if o = .cut then post e .cut number h
  else h

/-- A parked amendment applied to its booking at the end of its carriage (R154), or by TAKE AMENDMENT (R151 steps 1 and 2). -/
def applyParked (e : Env) (t : Nat) (h : Hall) : Hall :=
  match h.slotOf t with
  | none => h
  | some p =>
    let former := (h.booking p.number).map (·.fields.season)
    let h := replaceBooking e p (h.setSlot t none)
    let h := post e .amendmentApplied p.number h
    former.elim h fun s => seasonTest e s h

/-- A parked amendment dropped: posted, and the season it named tested (R153, R155, R156). -/
def dropParked (e : Env) (t : Nat) (h : Hall) : Hall :=
  match h.slotOf t with
  | none => h
  | some p => seasonTest e p.season (post e .amendmentDropped p.number (h.setSlot t none))

/-- What the table does when a booking no longer has its carriage: parked amendment, WITHDRAWING removal, retirement test (R24, R126, R127, R154, R155; log 13). A WITHDRAWING booking that two carriages name leaves the table at the first end or pass of either (the model's choice, log 64). A carriage that has passed to another day of the same booking keeps no STOP in the list when the applied fields no longer carry that day (the model's choice, log 72). -/
def serviceOver (e : Env) (t number : Nat) (h : Hall) : Hall :=
  let h := applyParked e t h
  let h := if (h.booking number).any (·.state == .withdrawing) then removeBooking e number h else h
  retire e (h.booking number).toList h

end Sys2Proof.Machine
end

