-- ==== Sys2Proof/Machine/Carriage.lean ====
section
/-! DEFINITION. The carriage controller: taking cues (R115, R123, R124, R127), opening and ending carriages (R116, R127, R131), changeover work (R118 to R120), keying (R121), carry-over (R126), substitution and re-preparation (R129, R130), and what it does on each report (R118 to R128). -/

namespace Sys2Proof.Machine

/-! ## Changeover work (R118, R119) -/

/-- A carriage enters RF_DOWN and asks for RF OFF (R118). -/
def enterRfDown (e : Env) (t : Nat) (h : Hall) : Hall :=
  rfOff e t (h.mapCarriage t fun c => { c with phase := .rfDown })

/-- The route and the setting are asked for (R119, R120). -/
def askRouteAndSetting (e : Env) (t : Nat) (h : Hall) : Hall :=
  match h.carriage t with
  | none => h
  | some c => askSetting e t c.antenna c.setting (askRoute t c.antenna h)

/-- A carriage enters WORKING and asks for its pieces of work at once (R119). -/
def enterWorking (e : Env) (t : Nat) (h : Hall) : Hall :=
  match h.carriage t with
  | none => h
  | some c =>
    let h := askRouteAndSetting e t (h.setCarriage t (some { c with phase := .working }))
    if c.tuneDone then h else askTune e t c.frequency h

/-- A carriage enters KEYING and asks for RF ON (R121). -/
def enterKeying (e : Env) (t : Nat) (h : Hall) : Hall :=
  match h.carriage t with
  | none => h
  | some c => rfOn e t c.power .carriage (h.setCarriage t (some { c with phase := .keying }))

/-- When all three flags are set the work is done: READY before the start, KEYING from it (R119), the clock deciding and no note of a START taken before a backward step (log 54). A carriage sent back by an INTERLOCK keys again later (log 8). -/
def workCheck (e : Env) (t : Nat) (h : Hall) : Hall :=
  match h.carriage t with
  | none => h
  | some c =>
    if c.phase = .working && c.routeDone && c.tuneDone && c.settingDone && !h.keyAgain.contains t then
      if e.now < c.start then h.setCarriage t (some { c with phase := .ready }) else enterKeying e t h
    else h

/-! ## Opening (R113, R115, R116) -/

/-- The refusal tests of R115 in order. -/
def openRefusal (e : Env) (h : Hall) (t : Nat) : Option RunOutcome :=
  if e.mode = .stopped then some .missed
  else if (h.tx t).mode = .console then some .tookLocal
  else if (h.tx t).state = .held then some .missed
  else if rowBlocked h t then some .missed
  else none

/-- The main antenna with its setting if it passes a test, else the alternate if it does (R115, R152, R2). -/
def resolveBy (e : Env) (ok : Nat → Bool) (b : Offered) : Option (Nat × Setting) :=
  if ok b.antenna then some (b.antenna, b.setting)
  else match b.alternate with
    | some a => if ok a then some (a, alternateSetting (e.antConfig a) b.setting) else none
    | none => none

/-- The antenna an occurrence resolves to: the main antenna if usable, else the alternate (R115). -/
def resolve (e : Env) (h : Hall) (t : Nat) (b : Offered) : Option (Nat × Setting) := resolveBy e (usable e h t) b

/-- The lateness expected when a carriage opens (R116), held at the greatest value of Table 24 (log 56). -/
def expectedLateness (e : Env) (t lead start : Nat) : Nat :=
  min (e.now + (if e.rfPresent t then (e.txConfig t).rfDown else 0) + lead - start) Config.largestLateness

/-- A carriage filled from the booking's current fields and the cue taken (R116). -/
def newCarriage (e : Env) (t : Nat) (b : Offered) (w : Waiting) (antenna : Nat) (setting : Setting) : Carriage where
  booking := b.number
  day := w.day
  start := startOn b w.day
  stop := endOn b w.day
  antenna := antenna
  setting := setting
  frequency := b.frequency
  power := b.power
  lead := w.lead
  phase := .working
  routeDone := false
  tuneDone := false
  settingDone := false
  substituted := antenna != b.antenna
  tripUsed := false
  aired := false
  lateSeconds := expectedLateness e t w.lead (startOn b w.day)
  breakBegan := none
  outcome := .none
  said := w.said

/-- A carriage opens on its granted claim (R115, R116). -/
def openCarriage (e : Env) (t : Nat) (b : Offered) (w : Waiting) (antenna : Nat) (setting : Setting) (h : Hall) : Hall :=
  let h := grantClaim e t antenna h
  let h := if antenna = b.antenna then h else post e .substituted b.number h
  let h := carriageOpened t (h.setCarriage t (some (newCarriage e t b w antenna setting)))
  let h := refresh e t h
  if rowLive e h t then enterRfDown e t h else enterWorking e t h

/-- A carriage is tried for an occurrence: refused and settled, or opened (R115). -/
def tryOpen (e : Env) (t : Nat) (b : Offered) (w : Waiting) (h : Hall) : Hall :=
  match openRefusal e h t with
  | some o => settleOutcome e b.number o h
  | none =>
    match resolve e h t b with
    | none => settleOutcome e b.number .missed h
    | some (antenna, setting) => openCarriage e t b w antenna setting h

/-- A waiting entry is reached: dropped, or opened with its STOP moved to its end time (R113). The entry names its booking by number, so a record entered anew under the number is the one it is judged by (log 50). -/
def reachEntry (e : Env) (t : Nat) (w : Waiting) (h : Hall) : Hall :=
  match h.booking w.booking with
  | none => h
  | some b =>
    if b.fields.transmitter ≠ t || !carriesDay h.calendar.entries b.fields w.day || endOn b.fields w.day ≤ e.now then
      settleOutcome e w.booking .missed h
    else
      let h := tryOpen e t b.fields w h
      let stop := h.lookahead.cues.find? fun c => c.isOf w.booking w.day && c.kind == .stop
      if (h.carriage t).isSome && stop.any (·.due != endOn b.fields w.day) then
        moveStop e t w.booking w.day (endOn b.fields w.day) h
      else h

/-- The entries of a waiting list are reached in order until one opens a carriage (R113, R127 step 7, R128); that one dropped or refused lets the next be reached at once is the model's choice (log 67). -/
def reachEntries (e : Env) (t : Nat) : List Waiting → Hall → Hall
  | [], h => h
  | w :: rest, h =>
    let h := reachEntry e t w (h.setWaiting t rest)
    if (h.carriage t).isSome then h else reachEntries e t rest h

/-- The waiting list is reached (R127 step 7). -/
def reachWaiting (e : Env) (t : Nat) (h : Hall) : Hall :=
  if (h.carriage t).isSome then h else reachEntries e t (h.waitingList t) h

/-! ## Ending (R127, R131) -/

/-- The monitor is told of a carriage end or an abandonment (R144). -/
def monitorEnd (t : Nat) (h : Hall) : Hall :=
  h.setMonitor t fun m =>
    { m with tripCount := 0, tripRun := 0, warnRun := 0, recycle := none, cleanRun := none, window := [], tripAntenna := none }

/-- A carriage leaves its transmitter: claim, route, setting and tune withdrawn, the sequencer and the monitor told (R127 steps 2 to 4, R131). -/
def detach (e : Env) (t : Nat) (h : Hall) : Hall :=
  let h := withdrawTune e t (releaseAny t h)
  let h := { h.setCarriage t none with keyAgain := h.keyAgain.filter (· != t) }
  monitorEnd t (carriageEnded t h)

/-- A carriage ends with its outcome (R127). -/
def endCarriage (e : Env) (t : Nat) (h : Hall) : Hall :=
  match h.carriage t with
  | none => h
  | some c =>
    let h := detach e t (settleOutcome e c.booking c.outcome h)
    let h := refresh e t (serviceOver e t c.booking h)
    reachWaiting e t h

/-- A carriage ends at once with an outcome (R120, R124). -/
def endWith (e : Env) (t : Nat) (o : RunOutcome) (h : Hall) : Hall :=
  endCarriage e t (h.mapCarriage t fun c => { c with outcome := o })

/-- A carriage enters ENDING with an outcome and asks for RF OFF (R124). -/
def enterEnding (e : Env) (t : Nat) (o : RunOutcome) (h : Hall) : Hall :=
  rfOff e t (h.mapCarriage t fun c => { c with phase := .ending, outcome := o })

/-- A carriage enters ENDING for an RF OFF that has already been sent, and ends at once when RF present is already off (R122, R128; log 19); while an RF ON still waits none has been sent, and it asks (R106, R124). -/
def endingForSent (e : Env) (t : Nat) (o : RunOutcome) (h : Hall) : Hall :=
  let h := h.mapCarriage t fun c => { c with phase := .ending, outcome := o }
  if (h.tx t).rfOn.isSome then rfOff e t h
  else if !e.rfPresent t then endCarriage e t h
  else if (h.tx t).rfDown.isSome then h
  else rfOff e t h

/-- An abandonment (R131); an amendment still parked for the booking is dropped, since no carriage serves it any longer (R146, R155; log 49). -/
def abandon (e : Env) (t : Nat) (h : Hall) : Hall :=
  match h.carriage t with
  | none => h
  | some c =>
    let h := dropParked e t h
    let h := if rowLive e h t then rfOff e t h else h
    let h := detach e t h
    let h := refresh e t (dropCues e t c.booking c.day h)
    reachWaiting e t h

/-! ## Resolving again, substitution, re-preparation (R120, R129, R130) -/

/-- The alternate a carriage could move to, usable for its transmitter (R117, R120, R129). -/
def freeAlternate (e : Env) (h : Hall) (t : Nat) (c : Carriage) : Option (Nat × Setting) :=
  match h.booking c.booking with
  | none => none
  | some b =>
    match b.fields.alternate with
    | some a => if usable e h t a then some (a, alternateSetting (e.antConfig a) b.fields.setting) else none
    | none => none

/-- A carriage moves to its alternate: claim moved, flags cleared, SUBSTITUTED posted, the transmitter reported (R120, R129). -/
def moveToAlternate (e : Env) (t a : Nat) (s : Setting) (c : Carriage) (h : Hall) : Hall :=
  let h := grantClaim e t a h
  let h := h.setCarriage t (some
    { c with antenna := a, setting := s, substituted := true, routeDone := false, settingDone := false })
  refresh e t (post e .substituted c.booking h)

/-- A carriage in RF_DOWN, WORKING or READY resolves again (R120). -/
def resolveAgain (e : Env) (t : Nat) (h : Hall) : Hall :=
  match h.carriage t with
  | none => h
  | some c =>
    let onMain := (h.booking c.booking).any (·.fields.antenna == c.antenna)
    match (if onMain then freeAlternate e h t c else none) with
    | none => endWith e t c.lost h
    | some (a, s) =>
      let h := moveToAlternate e t a s c h
      if c.phase = .rfDown then h
      else askRouteAndSetting e t (h.mapCarriage t fun c => { c with phase := .working })

/-- A re-preparation begins (R130; log 17). -/
def reprepare (e : Env) (t : Nat) (retune : Bool) (h : Hall) : Hall :=
  let h := h.mapCarriage t fun c =>
    { c with breakBegan := if c.aired then some e.now else none, routeDone := false, settingDone := false
             tuneDone := c.tuneDone && !retune }
  let h := if (h.tx t).state = .recycling then
      (h.setMonitor t fun m => { m with recycle := none }).setTx t fun x => { x with state := .serving }
    else h
  enterRfDown e t h

/-- A substitution on air asked for by the monitor or by a lock: whether it is granted, and what it does (R129). That a trip has asked is remembered whatever the answer, a refusal for the carriage's phase included (R129, R141). -/
def substituteOnAir (e : Env) (t : Nat) (forTrip : Bool) (h : Hall) : Bool × Hall :=
  match h.carriage t with
  | none => (false, h)
  | some c =>
    let h := if forTrip then h.setCarriage t (some { c with tripUsed := true }) else h
    if !c.phase.live || c.substituted || (forTrip && c.tripUsed) then (false, h)
    else match freeAlternate e h t c with
      | none => (false, h)
      | some (a, s) =>
        (true, reprepare e t false (moveToAlternate e t a s { c with tripUsed := c.tripUsed || forTrip } h))

/-! ## Taking cues (R115, R123 to R127) -/

/-- A PREPARE, or a carry START taken as one with lead 0 (R115, R127). For an occurrence that waits already the entry that stands is kept as it is, with its lead, its reported field and its place (R113; the model's choice, log 75). -/
def takePrepare (e : Env) (cue : Cue) (h : Hall) : Hall :=
  match h.booking cue.booking with
  | none => h
  | some b =>
    let h := setLastRun cue.booking cue.day h
    let h := h.mapLookahead fun l =>
      { l with readmit := l.readmit.filter fun o => !(o.booking == cue.booking && o.day == cue.day) }
    let t := b.fields.transmitter
    let w : Waiting := { booking := cue.booking, day := cue.day, lead := cue.lead, said := cue.said }
    if endOn b.fields cue.day ≤ e.now then settleOutcome e cue.booking .missed h
    else if (h.carriage t).isSome then
      if (h.waitingList t).any fun x => x.booking == cue.booking && x.day == cue.day then h
      else h.setWaiting t (h.waitingList t ++ [w])
    else tryOpen e t b.fields w h

/-- The transmitter whose carriage serves an occurrence; of two, the lowest (the model's choice, log 64). -/
def serving (h : Hall) (number day : Nat) : Option Nat :=
  allRows.find? fun t => (h.carriage t).any fun c => c.booking == number && c.day == day

/-- A START that is not a carry START (R123). One that finds RF_DOWN or WORKING leaves no note: that its start has passed is read from the clock when the work is done (log 54). A START keeps its due time (R47) also when its booking's start is amended meanwhile; the carriage that it finds READY keys, its own start passed or not (the model's choice, log 66). -/
def takeStart (e : Env) (cue : Cue) (h : Hall) : Hall :=
  match serving h cue.booking cue.day with
  | none => h
  | some t => if (h.carriage t).any (·.phase == .ready) then enterKeying e t h else h

/-- The carry-over an ON_AIR carriage can pass to at its STOP, with its carry START (R126). -/
def passTarget (h : Hall) (t due : Nat) (c : Carriage) : Option (Cue × Booking) :=
  h.lookahead.cues.findSome? fun x =>
    if x.carry && x.kind == .start && x.transmitter == t && x.due == due then
      match h.booking x.booking with
      | none => none
      | some b =>
        if b.fields.antenna = c.antenna && b.fields.setting = c.setting && b.fields.frequency = c.frequency &&
            !(h.antenna c.antenna).suspect && (h.antenna c.antenna).lock = .free && (h.tx t).state = .serving
        then some (x, b)
        else none
    else none

/-- An ON_AIR carriage passes to a carry-over (R126), which may be the next day of the same booking (log 72). -/
def passOver (e : Env) (t : Nat) (c : Carriage) (x : Cue) (b : Booking) (h : Hall) : Hall :=
  let h := settleOutcome e c.booking c.outcome h
  let h := h.setCarriage t (some
    { c with booking := x.booking, day := x.day, start := startOn b.fields x.day, stop := endOn b.fields x.day
             power := b.fields.power, lead := 0, substituted := false, tripUsed := false, breakBegan := none
             lateSeconds := 0, outcome := .aired, said := x.said })
  let h := if b.fields.power = c.power then h else setPower e t b.fields.power h
  refresh e t (serviceOver e t c.booking h)

/-- A carriage enters ENDING at its STOP (R124). That of a RECYCLING transmitter ends at once, the trip having taken its RF down, also while RF present has not yet gone off (R139; log 61). -/
def endAtStop (e : Env) (t : Nat) (o : RunOutcome) (h : Hall) : Hall :=
  if (h.tx t).state = .recycling then endCarriage e t (enterEnding e t o h) else enterEnding e t o h

/-- The STOP of a carriage, by its phase (R124); `pass` is off when WITHDRAW with NOW takes it (R156). -/
def stopCarriage (e : Env) (t due : Nat) (pass : Bool) (h : Hall) : Hall :=
  match h.carriage t with
  | none => h
  | some c =>
    match c.phase with
    | .onAir =>
      match (if pass then passTarget h t due c else none) with
      | some (x, b) => passOver e t c x b h
      | none => endAtStop e t c.outcome h
    | .keying | .rfDown => endAtStop e t c.lost h
    | .working | .ready => endWith e t c.lost h
    | .ending => h

/-- A waiting occurrence is removed at its STOP and settled MISSED (R125), from whichever waiting list holds it, of two the lowest transmitter's (R124; the model's choice, log 76). -/
def stopWaiting (e : Env) (number day : Nat) (h : Hall) : Hall :=
  let at' := fun (w : Waiting) => w.booking == number && w.day == day
  match allRows.find? fun t => (h.waitingList t).any at' with
  | some t => settleOutcome e number .missed (h.setWaiting t ((h.waitingList t).filter (!at' ·)))
  | none => h

/-- A STOP (R124, R125). One that finds its occurrence's own carriage in ENDING leaves a waiting entry of the same occurrence, which is dropped when it is reached (log 48). -/
def takeStop (e : Env) (cue : Cue) (h : Hall) : Hall :=
  match serving h cue.booking cue.day with
  | some t => stopCarriage e t cue.due true h
  | none => stopWaiting e cue.booking cue.day h

/-- A carry START (R127). -/
def takeCarryStart (e : Env) (cue : Cue) (h : Hall) : Hall :=
  match serving h cue.booking cue.day with
  | some _ => writeOutcome cue.booking .aired (setLastRun cue.booking cue.day h)
  | none => takePrepare e { cue with lead := 0 } h

/-- A due cue is taken, its kind deciding (R47). -/
def takeCue (e : Env) (cue : Cue) (h : Hall) : Hall :=
  match cue.kind with
  | .prepare => takePrepare e cue h
  | .start => if cue.carry then takeCarryStart e cue h else takeStart e cue h
  | .stop => takeStop e cue h

/-! ## On air (R121, R143) -/

/-- The clean-run timer starts when its three conditions have come to hold (R143). -/
def startCleanRun (e : Env) (t : Nat) (h : Hall) : Hall :=
  if (h.carriage t).any (·.phase == .onAir) && (h.tx t).state = .serving && e.rfPresent t &&
      0 < (h.monitor t).tripCount then
    h.setMonitor t fun m => { m with cleanRun := some (e.after (e.config.hall.cleanRun * 60000)) }
  else h

/-- RF present ends KEYING: the carriage is ON_AIR (R121). A break that a backward clock step has made negative counts 0, and when no second is late after a break the outcome is AIRED as R121 has it, where R130 says LATE (log 55). Late seconds are held at the greatest value of Table 24 (log 56). LATE joins the reported field of the carriage alone; the cues left in the list keep theirs (the model's choice, log 71). -/
def enterOnAir (e : Env) (t : Nat) (c : Carriage) (h : Hall) : Hall :=
  let late := min (match c.breakBegan with
    | none => e.now - c.start
    | some b => c.lateSeconds + (e.now - b)) Config.largestLateness
  let outcome : RunOutcome := if c.substituted then .substituted else if 0 < late then .late else .aired
  let say := 0 < late && !c.said.late
  let h := h.setCarriage t (some
    { c with phase := .onAir, lateSeconds := late, breakBegan := none, aired := true, outcome := outcome
             said := { c.said with late := c.said.late || say } })
  let h := writeOutcome c.booking outcome h
  if say then post e .late c.booking h else h

/-! ## Reports (R118 to R122, R128) -/

/-- RF is confirmed off (R118, R124). -/
def onRfOff (e : Env) (t : Nat) (h : Hall) : Hall :=
  match h.carriage t with
  | none => h
  | some c =>
    if e.rfPresent t then h
    else if c.phase = .rfDown then enterWorking e t h
    else if c.phase = .ending then endCarriage e t h
    else h

/-- RF is present (R121, R140, R143). -/
def onRfUp (e : Env) (t : Nat) (h : Hall) : Hall :=
  match h.carriage t with
  | none => h
  | some c => startCleanRun e t (if c.phase = .keying then enterOnAir e t c h else h)

/-- An RF ON failed with reason INTERLOCK: the carriage's own (R121), or the monitor's (R140). -/
def onInterlock (e : Env) (t : Nat) (r : Requester) (h : Hall) : Hall :=
  match h.carriage t with
  | none => h
  | some c =>
    if r = .carriage then
      if c.phase = .keying then
        askRouteAndSetting e t
          { h.setCarriage t (some { c with phase := .working, routeDone := false, settingDone := false }) with
            keyAgain := if h.keyAgain.contains t then h.keyAgain else h.keyAgain ++ [t] }
      else h
    else if c.phase.live then endingForSent e t c.lost h
    else h

/-- A piece of work is done (R119). -/
def onWorkDone (e : Env) (t : Nat) (fits : Carriage → Bool) (mark : Carriage → Carriage) (h : Hall) : Hall :=
  match h.carriage t with
  | none => h
  | some c => if fits c then workCheck e t (h.setCarriage t (some (mark c))) else h

/-- A failure that makes a carriage of this antenna resolve again, or ends it (R120). -/
def onWorkFailed (e : Env) (t a : Nat) (rowFault : Bool) (h : Hall) : Hall :=
  match h.carriage t with
  | none => h
  | some c =>
    if c.phase.early && c.antenna = a then if rowFault then endWith e t c.lost h else resolveAgain e t h else h

/-- The transmitter has entered HELD (R128), and is reported (R51, R95). -/
def onHeld (e : Env) (t : Nat) (h : Hall) : Hall :=
  match h.carriage t with
  | none => refresh e t h
  | some c => if c.phase = .ending then endCarriage e t h else endWith e t c.lost h

/-- One report as the carriage controller takes it; one that no longer fits has no effect (R128, Order). -/
def takeReport (e : Env) (r : Report) (h : Hall) : Hall :=
  match r with
  | .rfOff t => onRfOff e t h
  | .rfUp t => onRfUp e t h
  | .interlock t who => onInterlock e t who h
  | .tuneDone t f =>
    onWorkDone e t (fun c => (c.phase == .working || c.phase == .rfDown) && c.frequency == f)
      (fun c => { c with tuneDone := true }) h
  | .routeDone t a =>
    onWorkDone e t (fun c => c.phase == .working && c.antenna == a) (fun c => { c with routeDone := true }) h
  | .settingDone t a s =>
    onWorkDone e t (fun c => c.phase == .working && c.antenna == a && c.setting == s)
      (fun c => { c with settingDone := true }) h
  | .routeFailed t a why => onWorkFailed e t a (why == .rowBlocked) h
  | .settingFailed t a => onWorkFailed e t a false h
  | .rowBlocked t =>
    match h.carriage t with
    | some c => if rowBlocked h t then onWorkFailed e t c.antenna true h else h
    | none => h
  | .columnBlocked t a => if colBlocked h a then onWorkFailed e t a false h else h
  | .cut t =>
    match h.carriage t with
    | some c => if c.phase = .ending then h else endingForSent e t .cut h
    | none => h
  | .enableLost t =>
    match h.carriage t with
    | some c => if c.phase.live then endingForSent e t c.lost h else h
    | none => h
  | .held t => onHeld e t h

end Sys2Proof.Machine
end

