-- ==== Sys2Proof/Machine/Monitor.lean ====
section
/-! DEFINITION. The reflection monitor: evaluations (R134, R135), trip and warning (R136, R137), the window and the displayed ratio (R138), the trip ladder (R139 to R143). -/

namespace Sys2Proof.Machine

/-- The reflection of a pair of codes (R135). -/
def reflection (vf vr : Nat) : Nat := min (1024 * vr / vf) 1023

/-- The threshold of a VSWR in tenths (R135). -/
def threshold (vswr : Nat) : Nat := 1024 * (vswr - 10) / (vswr + 10)

/-- The displayed ratio of a window (R138). -/
def displayedRatio (window : List Nat) : Nat :=
  let mean := window.sum / window.length
  min (roundHalfUp (10 * (1024 + mean)) (1024 - mean)) 999

/-- A window of at most 8 values with one added (R138). -/
def addToWindow (window : List Nat) (r : Nat) : List Nat :=
  (if 8 ≤ window.length then window.drop 1 else window) ++ [r]

/-- A conversion is an evaluation (R134). -/
def isEvaluation (e : Env) (h : Hall) (t vf : Nat) : Bool :=
  (e.txConfig t).present && (h.carriage t).any (·.phase.live) && (h.tx t).state == .serving && e.config.hall.floor ≤ vf

/-- What a trip past the retry limit comes to: substitution, or HELD with reason TRIPS, the antenna marked either way (R141, R142). -/
def pastRetryLimit (e : Env) (t : Nat) (h : Hall) : Hall :=
  let mark := fun (h : Hall) => match (h.monitor t).tripAntenna with
    | some a => markSuspect e a h
    | none => h
  if (h.carriage t).isNone then mark h
  else
    let answer := substituteOnAir e t true h
    if answer.1 then (mark answer.2).setMonitor t fun m => { m with tripCount := 0, recycle := none }
    else enterHeld e t .trips (mark answer.2)

/-- A trip (R139). -/
def trip (e : Env) (t : Nat) (h : Hall) : Hall :=
  let antenna := (h.carriage t).map (·.antenna)
  let h := h.setMonitor t fun m => { m with tripAntenna := antenna }
  let h := tripTx e t h
  let h := h.setMonitor t fun m => { m with tripCount := m.tripCount + 1 }
  let h := post e .trip t h
  let h := h.setMonitor t fun m => { m with cleanRun := none }
  if (h.monitor t).tripCount ≤ e.config.hall.retryLimit then
    h.setMonitor t fun m => { m with recycle := some (e.after (e.config.hall.recycleDelay * 1000)) }
  else pastRetryLimit e t h

/-- The warning of an evaluation that does not trip (R137). -/
def warn (e : Env) (t r : Nat) (h : Hall) : Hall :=
  let run := if threshold e.config.hall.warnVswr < r then (h.monitor t).warnRun + 1 else 0
  if run < 8 then h.setMonitor t fun m => { m with warnRun := run }
  else
    let now' := (h.carriage t).map fun c => ({ booking := c.booking, day := c.day } : Occurrence)
    let posted := (h.monitor t).warned ≠ now'
    let h := h.setMonitor t fun m => { m with warnRun := 0, warned := if posted then now' else m.warned }
    if posted then post e .reflectionWarn t h else h

/-- The trip run after an evaluation, 2 when the transmitter trips (R136). -/
def tripRunAfter (e : Env) (run r : Nat) : Nat :=
  if Config.arcThreshold ≤ r then 2
  else if threshold e.config.hall.tripVswr < r then run + 1
  else 0

/-- An evaluation (R135 to R138): the reflection enters the record and the window, then the trip decision, then the warning. -/
def evaluate (e : Env) (t vf vr : Nat) (h : Hall) : Hall :=
  let r := reflection vf vr
  let run := tripRunAfter e (h.monitor t).tripRun r
  let window := addToWindow (h.monitor t).window r
  let h := h.setMonitor t fun m =>
    { m with reflection := some r, window := window, displayed := some (displayedRatio window) }
  if 2 ≤ run then
    trip e t (h.setMonitor t fun m => { m with tripRun := 0, warnRun := 0 })
  else warn e t r (h.setMonitor t fun m => { m with tripRun := run })

/-- A detector conversion (R134). -/
def convert (e : Env) (t vf vr : Nat) (h : Hall) : Hall :=
  if isEvaluation e h t vf then evaluate e t vf vr h else h

/-- The recycle timer reaches the recycle delay (R140). -/
def recycleExpired (e : Env) (t : Nat) (h : Hall) : Hall :=
  if (h.monitor t).recycle.isSome then
    recycleTx e t (h.setMonitor t fun m => { m with recycle := none })
  else h

/-- The clean-run timer reaches its window (R143). -/
def cleanRunExpired (t : Nat) (h : Hall) : Hall :=
  if (h.monitor t).cleanRun.isSome then h.setMonitor t fun m => { m with cleanRun := none, tripCount := 0 } else h

end Sys2Proof.Machine
end

