-- ==== Sys2Proof/Machine/Settle.lean ====
section
/-! DEFINITION. What follows inside one command: reports taken in order, conditions that come to hold, cues that are due (log 4), until nothing is left. -/

namespace Sys2Proof.Machine

/-- The first report taken, or with none left the first due cue (R47; log 4); whether there was one. -/
def takeNext (e : Env) (h : Hall) : Hall × Bool :=
  match h.agenda with
  | r :: rest => (takeReport e r { h with agenda := rest }, true)
  | [] =>
    match takeDue e h with
    | some (cue, h) => (refill e (takeCue e cue h), true)
    | none => (h, false)

/-- One round: the matrix and the sequencer by themselves, then the next report or cue (log 4). -/
def settleRound (e : Env) (h : Hall) : Hall × Bool := takeNext e (matrixPass e h)

/-- Rounds until nothing is left, or the limit of log 4. -/
def settleRounds (e : Env) : Nat → Hall → Hall
  | 0, h => h
  | n + 1, h =>
    let (h, more) := settleRound e h
    if more then settleRounds e n h else h

/-- Everything that follows at once; RF enable is tested last of all (R97). -/
def settle (e : Env) (h : Hall) : Hall := enforceRf e (settleRounds e Config.settleLimit h)

/-- A status report of a present transmitter: each changed indication is taken whole, with what follows from it, in the order RF present, fault, ready (R96; log 4); e holds the new indications. -/
def takeIndications (e : Env) (t : Nat) (old : Indications) (h : Hall) : Hall :=
  let new := e.indications t
  takeReady e t old new (settle e (takeFault e t old new (settle e (takeRfPresent e t old new h))))

/-- A carriage sent back by an INTERLOCK in an earlier command keys again when its work is done (R121; log 8). -/
def retryKeying (e : Env) (t : Nat) (h : Hall) : Hall :=
  if h.keyAgain.contains t then workCheck e t { h with keyAgain := h.keyAgain.filter (· != t) } else h

/-- The end of a command: what follows at once, then the keying retries of earlier commands (log 8). -/
def conclude (e : Env) (waiting : List Nat) (h : Hall) : Hall :=
  let h := settle e h
  if waiting.isEmpty then h else settle e (forEach waiting (retryKeying e) h)

end Sys2Proof.Machine
end

