-- ==== Sys2Proof/Machine/Clock.lean ====
section
/-! DEFINITION. The station clock: pulses, holdover and internal advances (R27 to R30), the loading of a setting (R32, R33), and how an advance is handed on (R31, R34, R35, R37). -/

namespace Sys2Proof.Machine

/-- How an advance of the clock is handed on. -/
inductive Handing where
  | nothing
  | ordinary
  | first
  | step (magnitude : Nat)
  deriving DecidableEq, Repr

/-- The clock's value as an absolute second. -/
def Clock.value (c : Clock) : Nat := absolute c.day c.second

/-- An advance by a number of seconds, a pending setting loaded at it (R25, R32, R33); 0 is a pulse that does not advance. The step is that of the value the clock takes, at a two-second advance the setting plus one second (the model's reading, log 70). -/
def Clock.advance (c : Clock) (n : Nat) : Clock × Handing :=
  let predicted := min (c.value + n) lastSecond
  match c.setting with
  | none => if n = 0 then (c, .nothing) else (c.setTo predicted, .ordinary)
  | some v =>
    let value := min (absolute v.day v.second + (n - 1)) lastSecond
    let loaded := { c.setTo value with setting := none, everSet := true }
    if c.status = .unset then
      ({ loaded with status := .holdover, watch := some (c.lastAdvance + Config.pulseLimit) }, .first)
    else if absDiff value predicted ≤ 1 then (loaded, .ordinary)
    else (loaded, .step (min (absDiff value predicted) 65535))

/-- A second pulse at a time of the timebase (R27, R29, R30). -/
def Clock.pulse (c : Clock) (t : Nat) : Clock × Handing :=
  match c.status with
  | .unset => (c, .nothing)
  | .locked =>
    if t - c.lastPulse < 500 then (c, .nothing)
    else
      Clock.advance { c with lastPulse := t, lastAdvance := t, watch := some (t + Config.pulseLimit) }
        ((t - c.lastPulse + 500) / 1000)
  | .holdover =>
    let joins := t - c.lastAdvance < 500
    Clock.advance
      { c with status := .locked, lastPulse := t, watch := some (t + Config.pulseLimit)
               lastAdvance := if joins then c.lastAdvance else t }
      (if joins then 0 else 1)

/-- The pulse watch reaches 2 s at a time of the timebase, and was running (R28). -/
def Clock.watchEnds (c : Clock) (t : Nat) : Clock × Handing :=
  if c.status = .locked then Clock.advance { c with status := .holdover, watch := none, lastAdvance := t } 2
  else ({ c with watch := none }, .nothing)

/-- An internal advance, one second after the last (R28, R30, R42). -/
def Clock.tick (c : Clock) : Clock × Handing :=
  if c.status = .locked then (c, .nothing) else Clock.advance { c with lastAdvance := c.lastAdvance + 1000 } 1

/-- A minute boundary is reached by an advance (R31). -/
def minuteReached (old new : Nat) : Bool := new % 60 == 0 || old / 60 < new / 60

/-- Retirement and the calendar's removal test of a later day (R24, R31, R40). -/
def laterDay (e : Env) (h : Hall) : Hall := calendarTest e (retire e h.table.records h)

/-- The live season found for a new day, a turn posted and rescanned (R37), then the tests of a later day (R31); in UNSET no season turns and no day has passed (R30; log 39). -/
def dayTests (e : Env) (oldDay : Nat) (scanAll : Hall → Hall) (h : Hall) : Hall :=
  if e.clock.day = oldDay then h
  else
    let was := h.calendar.live
    let h := findLive e h
    if e.unset then h
    else
      let h := if h.calendar.live = was then h else scanAll (post e .seasonTurned (h.calendar.live.getD 0) h)
      if oldDay < e.clock.day then laterDay e h else h

/-- The rescan of a clock step: of a step to an earlier value as R35 says, of another as any rescan (R34, R35; log 38). -/
def stepScan (e : Env) (old : Clock) (h : Hall) : Hall :=
  if e.clock.value ≤ old.value then rescanBack e h else rescan e h

/-- An advance handed on to the lookahead unit, the table and the calendar (R31 to R35; log 5); e holds the new value. -/
def handOn (e : Env) (old : Clock) (how : Handing) (h : Hall) : Hall :=
  match how with
  | .nothing => h
  | .ordinary =>
    let h := settle e h
    let h := if minuteReached old.value e.clock.value then settle e (minuteScan e h) else h
    dayTests e old.day (rescan e) h
  | .first => rescan e (laterDay e (findLive e h))
  | .step magnitude => dayTests e old.day (stepScan e old) (settle e (stepScan e old (post e .clockStep magnitude h)))

end Sys2Proof.Machine
end

