-- ==== Sys2Proof/Machine/Operands.lean ====
section
/-! DEFINITION. Every operand form: command bodies to and from bytes (R192, R193, Tables 46, 47), the check (R184), a received frame to its command (R182 to R185), and result bodies to bytes (Tables 47 to 52). -/

namespace Sys2Proof.Machine

/-! ## Characters on the lines (R181) -/

/-- A character of a link: its eight data bits and, on the planning link, its address mark (R181). -/
structure LinkCharacter where
  mark : Bool
  data : Byte
  deriving DecidableEq, Repr

/-- One bit time of a character (R181). -/
inductive LineBit where
  | start
  | data (bit : Bool)
  | mark (bit : Bool)
  | stop
  deriving DecidableEq, Repr

/-- The bits of a character in the order they travel: start, data least significant first, the mark on the planning link, stop (R181). -/
def characterBits (link : Link) (c : LinkCharacter) : List LineBit :=
  [.start] ++ (List.range 8).map (fun i => .data (c.data.getLsbD i)) ++
    (match link with
     | .planning => [.mark c.mark]
     | .console => []) ++ [.stop]

/-- A byte of its bits, least significant first. -/
def byteOf (bits : List Bool) : Byte := BitVec.ofNat 8 (bits.foldr (fun b v => 2 * v + b.toNat) 0)

/-- A character of the bits received; none when its form is broken, a framing error (R181, R183). -/
def readCharacter : Link → List LineBit → Option LinkCharacter
  | .planning, [.start, .data a, .data b, .data c, .data d, .data e, .data f, .data g, .data h, .mark m, .stop] =>
    some { mark := m, data := byteOf [a, b, c, d, e, f, g, h] }
  | .console, [.start, .data a, .data b, .data c, .data d, .data e, .data f, .data g, .data h, .stop] =>
    some { mark := false, data := byteOf [a, b, c, d, e, f, g, h] }
  | _, _ => none

/-- A character time at a divisor, in cycles of the 4 915 200 Hz that the rates divide (R181). -/
def characterCycles (link : Link) (divisor : Nat) : Nat :=
  (match link with
   | .planning => 11
   | .console => 10) * (16 * (divisor + 1))

/-! ## Numbers and fields (R192) -/

/-- A number of a width in bytes, most significant byte first. -/
def putNum : Nat → Nat → List Byte
  | 0, _ => []
  | n + 1, v => BitVec.ofNat 8 (v / 256 ^ n) :: putNum n v

/-- The rest of a number of a width read onto what has been read. -/
def takeNum : Nat → Nat → List Byte → Option (Nat × List Byte)
  | 0, v, l => some (v, l)
  | _ + 1, _, [] => none
  | n + 1, v, b :: rest => takeNum n (v * 256 + b.toNat) rest

/-- A number of a width in bytes. -/
def getNum (n : Nat) (l : List Byte) : Option (Nat × List Byte) := takeNum n 0 l

/-- All ones across a width. -/
def allOnes (n : Nat) : Nat := 256 ^ n - 1

/-- A field that may be absent, sent as all ones (R192). -/
def putOpt (n : Nat) (v : Option Nat) : List Byte := putNum n (v.getD (allOnes n))

/-- A field that may be absent. -/
def getOpt (n : Nat) (l : List Byte) : Option (Option Nat × List Byte) :=
  (getNum n l).map fun (v, rest) => (if v = allOnes n then none else some v, rest)

/-- A season id that may be absent, sent as 0. -/
def getSeasonOpt (l : List Byte) : Option (Option Nat × List Byte) :=
  (getNum 1 l).map fun (v, rest) => (if v = 0 then none else some v, rest)

/-- A presence or option byte. -/
def putFlag (b : Bool) : List Byte := [if b then 1 else 0]

/-- A presence or option byte: 0 or 1 (R193). -/
def getFlag : List Byte → Option (Bool × List Byte)
  | b :: rest => if b = 0 then some (false, rest) else if b = 1 then some (true, rest) else none
  | [] => none

/-- A setting (R192). -/
def putSetting (s : Setting) : List Byte :=
  [BitVec.ofNat 8 ((s.slew + 6).toNat + if s.dir = .reverse then 128 else 0)]

/-- A setting: slew step plus 6 in bits 0 to 3, direction in bit 7, nothing else (R192, R193). -/
def getSetting : List Byte → Option (Setting × List Byte)
  | b :: rest =>
    if b.toNat % 128 ≤ 12 then
      some ({ slew := (b.toNat % 128 : Nat) - 6, dir := if 128 ≤ b.toNat then .reverse else .forward }, rest)
    else none
  | [] => none

/-- A weekday set (R192). -/
def putDays (d : Weekdays) : List Byte :=
  [BitVec.ofNat 8 ((List.range 7).foldl (fun v i => v + if d[i]?.getD false then 2 ^ i else 0) 0)]

/-- A weekday set; bit 7 is unused (R192, R193). -/
def getDays : List Byte → Option (Weekdays × List Byte)
  | b :: rest =>
    if b.toNat < 128 then
      some (#v[b.getLsbD 0, b.getLsbD 1, b.getLsbD 2, b.getLsbD 3, b.getLsbD 4, b.getLsbD 5, b.getLsbD 6], rest)
    else none
  | [] => none

/-- Some characters. -/
def getChars : Nat → List Byte → Option (List Nat × List Byte)
  | 0, l => some ([], l)
  | _ + 1, [] => none
  | n + 1, b :: rest => (getChars n rest).map fun (cs, l) => (b.toNat :: cs, l)

/-- A label: a count byte and that many character codes (R192). -/
def putLabel (l : List Nat) : List Byte := putNum 1 l.length ++ l.flatMap (putNum 1)

/-- A label. -/
def getLabel (l : List Byte) : Option (List Nat × List Byte) := (getNum 1 l).bind fun (n, rest) => getChars n rest

/-- A day number that may be absent: its bytes, zero when it is (R192). -/
def putDay (d : Option Nat) : List Byte := putNum 2 (d.getD 0)

/-! ## A booking record (Table 47) -/

/-- The record up to its label, with the flag of the last run day. -/
def putRecord (b : Offered) (lastRunGiven : Bool) : List Byte :=
  putNum 2 b.number ++ putNum 1 b.season ++ putNum 1 b.transmitter ++ putNum 1 b.antenna ++ putOpt 1 b.alternate ++
  putSetting b.setting ++ putNum 2 b.frequency ++ putNum 2 b.power ++ putNum 2 b.start ++ putNum 2 b.duration ++
  putDays b.days ++
  putNum 1 ((if b.firstDay.isSome then 1 else 0) + (if b.lastDay.isSome then 2 else 0) + if lastRunGiven then 4 else 0) ++
  putDay b.firstDay ++ putDay b.lastDay ++ putLabel b.label

/-- The offered form (Table 47). -/
def putOffered (b : Offered) : List Byte := putRecord b false

/-- The offered form; only bits 0 and 1 of its date flags are used (R193). -/
def getOffered (l : List Byte) : Option (Offered × List Byte) := do
  let (number, l) ← getNum 2 l
  let (season, l) ← getNum 1 l
  let (transmitter, l) ← getNum 1 l
  let (antenna, l) ← getNum 1 l
  let (alternate, l) ← getOpt 1 l
  let (setting, l) ← getSetting l
  let (frequency, l) ← getNum 2 l
  let (power, l) ← getNum 2 l
  let (start, l) ← getNum 2 l
  let (duration, l) ← getNum 2 l
  let (days, l) ← getDays l
  let (flags, l) ← getNum 1 l
  let (first, l) ← getNum 2 l
  let (last, l) ← getNum 2 l
  let (label, l) ← getLabel l
  if flags < 4 then
    some ({ number := number, season := season, transmitter := transmitter, antenna := antenna, alternate := alternate
            setting := setting, frequency := frequency, power := power, start := start, duration := duration
            days := days, firstDay := if flags % 2 = 1 then some first else none
            lastDay := if 2 ≤ flags then some last else none, label := label }, l)
  else none

/-- Some booking records, one after another. -/
def getRecords : Nat → List Byte → Option (List Offered × List Byte)
  | 0, l => some ([], l)
  | n + 1, l => (getOffered l).bind fun (b, rest) => (getRecords n rest).map fun (bs, l) => (b :: bs, l)

/-- The body of LOAD BLOCK: a count and that many records (Table 46). -/
def putBlock (l : List Offered) : List Byte := putNum 1 l.length ++ l.flatMap putOffered

/-- The body of LOAD BLOCK. -/
def getBlock (l : List Byte) : Option (List Offered × List Byte) := (getNum 1 l).bind fun (n, rest) => getRecords n rest

/-! ## The other command bodies (Table 46) -/

def putWithdraw (w : WithdrawArgs) : List Byte := putNum 2 w.number ++ putFlag w.now

def getWithdraw (l : List Byte) : Option (WithdrawArgs × List Byte) := do
  let (number, l) ← getNum 2 l
  let (now, l) ← getFlag l
  some ({ number := number, now := now }, l)

def putList (a : ListArgs) : List Byte :=
  putNum 2 a.start ++ putOpt 1 a.transmitter ++ putOpt 1 a.antenna ++ putNum 1 (a.season.getD 0)

def getList (l : List Byte) : Option (ListArgs × List Byte) := do
  let (start, l) ← getNum 2 l
  let (transmitter, l) ← getOpt 1 l
  let (antenna, l) ← getOpt 1 l
  let (season, l) ← getSeasonOpt l
  some ({ start := start, transmitter := transmitter, antenna := antenna, season := season }, l)

def putSeasonEntry (s : SeasonEntry) : List Byte := putNum 1 s.id ++ putNum 2 s.firstDay

def getSeasonEntry (l : List Byte) : Option (SeasonEntry × List Byte) := do
  let (id, l) ← getNum 1 l
  let (day, l) ← getNum 2 l
  some ({ id := id, firstDay := day }, l)

def putClock (v : ClockValue) : List Byte := putNum 2 v.day ++ putNum 3 v.second

def getClock (l : List Byte) : Option (ClockValue × List Byte) := do
  let (day, l) ← getNum 2 l
  let (second, l) ← getNum 3 l
  some ({ day := day, second := second }, l)

def putHall (r : HallRecord) : List Byte :=
  putNum 2 r.nearlyFull ++ putNum 1 r.guard ++ putNum 2 r.horizon ++ putNum 1 r.margin ++ putNum 1 r.travel ++
  putNum 1 r.tuneGrace ++ putNum 1 r.floor ++ putNum 1 r.tripVswr ++ putNum 1 r.warnVswr ++ putNum 1 r.recycleDelay ++
  putNum 1 r.retryLimit ++ putNum 1 r.cleanRun

def getHall (l : List Byte) : Option (HallRecord × List Byte) := do
  let (nearlyFull, l) ← getNum 2 l
  let (guard, l) ← getNum 1 l
  let (horizon, l) ← getNum 2 l
  let (margin, l) ← getNum 1 l
  let (travel, l) ← getNum 1 l
  let (tuneGrace, l) ← getNum 1 l
  let (floor, l) ← getNum 1 l
  let (tripVswr, l) ← getNum 1 l
  let (warnVswr, l) ← getNum 1 l
  let (recycleDelay, l) ← getNum 1 l
  let (retryLimit, l) ← getNum 1 l
  let (cleanRun, l) ← getNum 1 l
  some ({ nearlyFull := nearlyFull, guard := guard, horizon := horizon, margin := margin, travel := travel
          tuneGrace := tuneGrace, floor := floor, tripVswr := tripVswr, warnVswr := warnVswr
          recycleDelay := recycleDelay, retryLimit := retryLimit, cleanRun := cleanRun }, l)

def putTxWrite (w : TxWrite) : List Byte :=
  putNum 1 w.transmitter ++ putFlag w.config.present ++ putNum 2 w.config.minFreq ++ putNum 2 w.config.maxFreq ++
  putNum 2 w.config.rated ++ putNum 1 w.config.tuneBase ++ putNum 2 w.config.tuneRate ++ putNum 1 w.config.rfDown

def getTxWrite (l : List Byte) : Option (TxWrite × List Byte) := do
  let (t, l) ← getNum 1 l
  let (present, l) ← getFlag l
  let (minFreq, l) ← getNum 2 l
  let (maxFreq, l) ← getNum 2 l
  let (rated, l) ← getNum 2 l
  let (tuneBase, l) ← getNum 1 l
  let (tuneRate, l) ← getNum 2 l
  let (rfDown, l) ← getNum 1 l
  some ({ transmitter := t
          config := { present := present, minFreq := minFreq, maxFreq := maxFreq, rated := rated, tuneBase := tuneBase
                      tuneRate := tuneRate, rfDown := rfDown } }, l)

/-- Band windows, one after another. -/
def getWindows : Nat → List Byte → Option (List Band × List Byte)
  | 0, l => some ([], l)
  | n + 1, l =>
    (getNum 2 l).bind fun (low, l) => (getNum 2 l).bind fun (high, l) =>
      (getWindows n l).map fun (ws, l) => ({ low := low, high := high } :: ws, l)

/-- A count and that many band windows. -/
def putWindows (ws : List Band) : List Byte :=
  putNum 1 ws.length ++ ws.flatMap fun w => putNum 2 w.low ++ putNum 2 w.high

def putAntWrite (w : AntWrite) : List Byte :=
  putNum 1 w.antenna ++ putFlag w.config.present ++ putNum 2 w.config.bearing ++ putNum 2 w.config.rating ++
  putNum 1 w.config.maxSlew ++ putFlag w.config.reversible ++ putNum 1 w.config.settingTime ++ putWindows w.config.windows

def getAntWrite (l : List Byte) : Option (AntWrite × List Byte) := do
  let (a, l) ← getNum 1 l
  let (present, l) ← getFlag l
  let (bearing, l) ← getNum 2 l
  let (rating, l) ← getNum 2 l
  let (maxSlew, l) ← getNum 1 l
  let (reversible, l) ← getFlag l
  let (settingTime, l) ← getNum 1 l
  let (n, l) ← getNum 1 l
  let (windows, l) ← getWindows n l
  some ({ antenna := a
          config := { present := present, bearing := bearing, rating := rating, windows := windows, maxSlew := maxSlew
                      reversible := reversible, settingTime := settingTime } }, l)

def putRowCol (x : RowCol) : List Byte := putNum 1 x.row ++ putNum 1 x.col

def getRowCol (l : List Byte) : Option (RowCol × List Byte) := do
  let (row, l) ← getNum 1 l
  let (col, l) ← getNum 1 l
  some ({ row := row, col := col }, l)

def putLocalRoute (r : LocalRouteArgs) : List Byte := putNum 1 r.transmitter ++ putOpt 1 r.column

def getLocalRoute (l : List Byte) : Option (LocalRouteArgs × List Byte) := do
  let (t, l) ← getNum 1 l
  let (column, l) ← getOpt 1 l
  some ({ transmitter := t, column := column }, l)

def putLocal (r : LocalArgs) : List Byte := putNum 1 r.transmitter ++ putNum 2 r.value

def getLocal (l : List Byte) : Option (LocalArgs × List Byte) := do
  let (t, l) ← getNum 1 l
  let (value, l) ← getNum 2 l
  some ({ transmitter := t, value := value }, l)

/-- An empty body. -/
def getUnit (l : List Byte) : Option (Unit × List Byte) := some ((), l)

/-- A kind set (R192). -/
def putMask (m : BitVec 32) : List Byte := putNum 4 m.toNat

def getMask (l : List Byte) : Option (BitVec 32 × List Byte) :=
  (getNum 4 l).map fun (v, l) => (BitVec.ofNat 32 v, l)

/-- A body decoded against its whole layout: one that ends before it or goes beyond it is malformed (R193). -/
def bodyOf (get : List Byte → Option (α × List Byte)) (l : List Byte) : Body α :=
  match get l with
  | some (a, []) => .fields a
  | _ => .malformed

/-! ## Frames (R182 to R185) -/

/-- The command a code names on a link, with its body decoded (Table 40 numbered as R192 gives, Table 46). -/
def commandOf (link : Link) (code : Nat) (tag : Byte) (body : List Byte) : Instr :=
  match link, code with
  | .planning, 1 => .enter tag (bodyOf getOffered body)
  | .planning, 2 => .loadBlock tag (bodyOf getBlock body)
  | .planning, 3 => .amend tag (bodyOf getOffered body)
  | .planning, 4 => .withdraw tag (bodyOf getWithdraw body)
  | _, 5 => .fetch link tag (bodyOf (getNum 2) body)
  | .planning, 6 => .list tag (bodyOf getList body)
  | .planning, 7 => .calendarAdd tag (bodyOf getSeasonEntry body)
  | .planning, 8 => .calendarRemove tag (bodyOf (getNum 1) body)
  | .planning, 9 => .calendarRead tag (bodyOf getUnit body)
  | .planning, 10 => .setClock (.addressed tag) (bodyOf getClock body)
  | .planning, 11 => .readCues tag (bodyOf (getNum 1) body)
  | _, 12 => .readTransmitter link tag (bodyOf (getNum 1) body)
  | _, 13 => .readAntenna link tag (bodyOf (getNum 1) body)
  | _, 14 => .readRoutes link tag (bodyOf (getNum 2) body)
  | .planning, 15 => .configureHall tag (bodyOf getHall body)
  | .planning, 16 => .commission tag (bodyOf getUnit body)
  | .planning, 17 => .reconfigure tag (bodyOf getUnit body)
  | .planning, 18 => .configureTransmitter tag (bodyOf getTxWrite body)
  | .planning, 19 => .configureAntenna tag (bodyOf getAntWrite body)
  | .planning, 20 => .setAlarmMask tag (bodyOf getMask body)
  | _, 21 => .poll link tag (bodyOf getUnit body)
  | _, 22 => .setLinkRate link tag (bodyOf (getNum 2) body)
  | .console, 23 => .lockAntenna tag (bodyOf (getNum 1) body)
  | .console, 24 => .freeAntenna tag (bodyOf (getNum 1) body)
  | .console, 25 => .clearSuspect tag (bodyOf (getNum 1) body)
  | .console, 26 => .clearStuck tag (bodyOf getRowCol body)
  | .console, 27 => .takeLocal tag (bodyOf (getNum 1) body)
  | .console, 28 => .giveRemote tag (bodyOf (getNum 1) body)
  | .console, 29 => .localRoute tag (bodyOf getLocalRoute body)
  | .console, 30 => .localTune tag (bodyOf getLocal body)
  | .console, 31 => .localRfOn tag (bodyOf getLocal body)
  | .console, 32 => .localRfOff tag (bodyOf (getNum 1) body)
  | .console, 33 => .clearHeld tag (bodyOf (getNum 1) body)
  | .console, 34 => .takeAmendment tag (bodyOf (getNum 1) body)
  | .console, 35 => .dropAmendment tag (bodyOf (getNum 1) body)
  | .console, 36 => .hallStop tag (bodyOf getUnit body)
  | .console, 37 => .hallResume tag (bodyOf getUnit body)
  | .console, 38 => .ackAlarm tag (bodyOf getUnit body)
  | _, _ => .unknownCommand link (BitVec.ofNat 8 code) tag

/-- The body of a command frame after its tag (Table 46); none for a command that is no frame, or whose body did not decode. -/
def bodyBytes : Instr → Option (List Byte)
  | .enter _ (.fields b) | .amend _ (.fields b) => some (putOffered b)
  | .loadBlock _ (.fields l) => some (putBlock l)
  | .withdraw _ (.fields w) => some (putWithdraw w)
  | .list _ (.fields a) => some (putList a)
  | .calendarAdd _ (.fields s) => some (putSeasonEntry s)
  | .setClock (.addressed _) (.fields v) => some (putClock v)
  | .configureHall _ (.fields r) => some (putHall r)
  | .configureTransmitter _ (.fields w) => some (putTxWrite w)
  | .configureAntenna _ (.fields w) => some (putAntWrite w)
  | .setAlarmMask _ (.fields m) => some (putMask m)
  | .clearStuck _ (.fields x) => some (putRowCol x)
  | .localRoute _ (.fields r) => some (putLocalRoute r)
  | .localTune _ (.fields r) | .localRfOn _ (.fields r) => some (putLocal r)
  | .fetch _ _ (.fields n) | .readRoutes _ _ (.fields n) | .setLinkRate _ _ (.fields n) => some (putNum 2 n)
  | .calendarRemove _ (.fields n) | .readCues _ (.fields n) | .readTransmitter _ _ (.fields n)
  | .readAntenna _ _ (.fields n) | .lockAntenna _ (.fields n) | .freeAntenna _ (.fields n)
  | .clearSuspect _ (.fields n) | .takeLocal _ (.fields n) | .giveRemote _ (.fields n) | .localRfOff _ (.fields n)
  | .clearHeld _ (.fields n) | .takeAmendment _ (.fields n) | .dropAmendment _ (.fields n) => some (putNum 1 n)
  | .calendarRead _ (.fields _) | .commission _ (.fields _) | .reconfigure _ (.fields _) | .poll _ _ (.fields _)
  | .hallStop _ (.fields _) | .hallResume _ (.fields _) | .ackAlarm _ (.fields _) => some []
  | _ => none

/-- One bit of the check: shifted, and combined with 1021 hexadecimal when the bit shifted out differs from the data bit (R184). -/
def crcBit (reg : Word16) (bit : Bool) : Word16 :=
  if reg.msb = bit then reg <<< 1 else (reg <<< 1) ^^^ 0x1021#16

/-- One character of the check, its bits most significant first (R184). -/
def crcByte (reg : Word16) (b : Byte) : Word16 :=
  [7, 6, 5, 4, 3, 2, 1, 0].foldl (fun r i => crcBit r (b.getLsbD i)) reg

/-- The check over some characters (R184). -/
def crc (l : List Byte) : Word16 := l.foldl crcByte 0xFFFF#16

/-- The two characters of the check, most significant first (R183). -/
def crcBytes (l : List Byte) : List Byte := putNum 2 (crc l).toNat

/-- A complete frame after its address character, without its check: length, command code, body (R183). -/
def framed (code : Nat) (body : List Byte) : List Byte :=
  putNum 1 (body.length + 1) ++ putNum 1 code ++ body

/-- What the planning link's receiver does at a marked character: its address is compared with the hall address (R182). -/
def markedReceiver (hall address : Nat) : Receiver :=
  if address = 0 then .broadcast else if address = hall then .receiving else .ignoring

/-- The command of a frame's characters after the address, of the length the frame gives; broadcast or not (R183, R184, R185). -/
def frameCommand (link : Link) (broadcast : Bool) (l : List Byte) : Instr :=
  match l with
  | length :: code :: rest =>
    if length.toNat < 2 ∨ 250 < length.toNat then .frameDiscard link .badLength
    else
      let body := rest.take (length.toNat - 1)
      if rest.drop (length.toNat - 1) ≠ crcBytes (length :: code :: body) then .frameDiscard link .badCheck
      else match body with
        | [] => .frameDiscard link .badLength
        | tag :: fields =>
          if broadcast then
            if code.toNat = 10 then .setClock .broadcast (bodyOf getClock fields) else .frameDiscard link .notBroadcast
          else commandOf link code.toNat tag fields
  | _ => .frameDiscard link .badLength

/-- The command of a planning frame that its marked character opens: none for another hall's (R182). -/
def planningCommand (hall : Nat) (first : Byte) (l : List Byte) : Option Instr :=
  match markedReceiver hall first.toNat with
  | .receiving => some (frameCommand .planning false l)
  | .broadcast => some (frameCommand .planning true l)
  | _ => none

/-! ## Result bodies (12.2, Tables 47 to 52) -/

/-- Bits in ascending place, the first of weight 1. -/
def putBits (bits : List Bool) : List Byte :=
  putNum 1 (bits.foldr (fun b v => 2 * v + if b then 1 else 0) 0)

/-- A setting that may be absent (R192). -/
def putSettingOpt (s : Option Setting) : List Byte := (s.map putSetting).getD [0xFF]

/-- The stored form of a booking record (Table 47). -/
def putStored (b : Booking) : List Byte :=
  putRecord b.fields b.lastRun.isSome ++ putNum 1 b.state.ctorIdx ++ putNum 1 b.outcome.ctorIdx ++ putDay b.lastRun

/-- A cue's kind in the order of Table 10 (R192). -/
def CueKind.code : CueKind → Nat
  | .prepare => 0
  | .start => 1
  | .stop => 2

/-- A day beside the reference day: yesterday, today, tomorrow, other (Table 49). -/
def dayCode (today day : Nat) : Nat :=
  if day + 1 = today then 0 else if day = today then 1 else if day = today + 1 then 2 else 3

/-- A due time in seconds from 00:00:00 of yesterday: 0 for earlier, all ones for later (Table 49). -/
def dueCode (today due : Nat) : Nat :=
  let since := due + Config.daySeconds - today * Config.daySeconds
  if 3 * Config.daySeconds ≤ since then allOnes 3 else since

/-- One cue of READ CUES (Table 49). -/
def putCue (today : Nat) (c : Cue) : List Byte :=
  putNum 1 (c.transmitter + 16 * c.kind.code + (if c.carry then 64 else 0) + if c.clamped then 128 else 0) ++
  putNum 2 (c.booking + 16384 * dayCode today c.day) ++ putNum 3 (dueCode today c.due) ++
  putNum 2 (c.lead + (if c.said.late then 16384 else 0) + if c.said.clamped then 32768 else 0) ++ putNum 2 c.lateness

/-- A move's crosspoint number (R65). -/
def Move.number (m : Move) : Nat := m.row * Config.columns + m.col

/-- The state of a transmitter as a number that may be absent: none for an absent transmitter (R111, Table 50). -/
def stateCode (present : Bool) (state : TxState) : Option Nat := if present then some state.ctorIdx else none

/-- The live fields of READ TRANSMITTER from the state on (Table 50). -/
def putTxLive (present : Bool) (x : Tx) (left : Option Nat) : List Byte :=
  putOpt 1 (stateCode present x.state) ++
  putOpt 1 (x.reason.map (·.ctorIdx)) ++ putOpt 2 x.tuned ++ putOpt 2 x.power ++ putOpt 2 (x.tune.map (·.frequency)) ++
  putOpt 2 (x.tune.bind (·.origin)) ++ putOpt 2 left ++ putOpt 2 (x.pendingTune.map (·.frequency))

/-- READ TRANSMITTER (Table 50). -/
def putTransmitter (t : Nat) (c : TxConfig) (x : Tx) (i : Indications) (left : Option Nat) (carriage : Option (Nat × Phase))
    (trips : Nat) (displayed : Option Nat) : List Byte :=
  putNum 1 t ++
  putBits [c.present, x.mode == .console, x.rfEnable, x.rfUp.isSome, x.rfDown.isSome, i.rfPresent, i.fault, i.ready] ++
  putNum 2 c.minFreq ++ putNum 2 c.maxFreq ++ putNum 2 c.rated ++ putNum 1 c.tuneBase ++ putNum 2 c.tuneRate ++
  putNum 1 c.rfDown ++ putTxLive c.present x left ++
  putOpt 2 (carriage.map (·.1)) ++ putOpt 1 (carriage.map (·.2.ctorIdx)) ++ putNum 1 trips ++ putOpt 2 displayed

/-- READ ANTENNA (Table 51). -/
def putAntenna (a : Nat) (c : AntConfig) (x : Antenna) (claim route azimuth : Option Nat) : List Byte :=
  putNum 1 a ++ putBits [c.present, c.reversible, x.suspect, x.change.isSome] ++ putNum 2 c.bearing ++ putNum 2 c.rating ++
  putNum 1 c.maxSlew ++ putNum 1 c.settingTime ++ putNum 1 x.lock.ctorIdx ++ putSettingOpt x.setting ++
  putSettingOpt (x.change.map (·.target)) ++ putSettingOpt x.wanted ++ putOpt 1 claim ++ putOpt 1 route ++
  putOpt 2 azimuth ++ putWindows c.windows

/-- READ ROUTES (Table 51). -/
def putRoutes (rows : List RowView) (cols : List ColView) (slots : List (Option Move)) (queue : List Move) (more : Bool)
    (listed : List XpView) : List Byte :=
  (rows.flatMap fun r => putNum 1 (r.route.getD 31 + if r.blocked then 128 else 0) ++ putOpt 1 r.moving) ++
  (cols.flatMap fun c => putNum 1 (c.route.getD 15 + if c.blocked then 128 else 0) ++ putOpt 1 c.claim) ++
  (slots.flatMap fun s => putOpt 2 (s.map (·.number)) ++ putOpt 1 (s.map fun m => if m.close then 1 else 0)) ++
  putNum 1 queue.length ++
  (queue.flatMap fun m => putNum 2 m.number ++ putBits [m.close, m.safety]) ++
  putFlag more ++ putNum 1 listed.length ++
  listed.flatMap fun x => putNum 2 x.number ++ putNum 1 (x.state.ctorIdx + 16 * x.reading.ctorIdx)

/-- The body of a result (12.2). -/
def putResult : ResultBody → List Byte
  | .empty => []
  | .booking number parked => putNum 2 number ++ putFlag parked
  | .block results => putNum 1 results.length ++ results.flatMap fun r =>
      putNum 1 r.1.ctorIdx ++ putOpt 2 (r.2.map (·.1)) ++ putFlag (r.2.any (·.2))
  | .numbers more found => putNum 1 found.length ++ putFlag more ++ found.flatMap (putNum 2)
  | .record b parked => putStored b ++ putFlag parked.isSome ++ ((parked.map putOffered).getD [])
  | .hall r mode => putHall r ++ putNum 1 mode.ctorIdx
  | .mask m => putNum 4 m.toNat
  | .divisor n => putNum 2 n
  | .calendar v status pending live entries =>
      putClock v ++ putNum 1 status.ctorIdx ++ putFlag pending ++ putNum 1 (live.getD 0) ++ putNum 1 entries.length ++
      entries.flatMap fun s => putSeasonEntry s.entry ++ putFlag s.ended ++ putNum 2 s.names
  | .cues total short horizon today cues =>
      putNum 1 total ++ putFlag short ++ putNum 2 horizon ++ putNum 2 today ++ putNum 1 cues.length ++
      cues.flatMap (putCue today)
  | .transmitter t c x i left carriage trips displayed => putTransmitter t c x i left carriage trips displayed
  | .antenna a c x claim route azimuth => putAntenna a c x claim route azimuth
  | .routes rows cols slots queue more listed => putRoutes rows cols slots queue more listed
  | .poll members alarm asserted =>
      putNum 1 members.length ++ (members.flatMap fun m => putNum 1 m.1 ++ putNum 2 m.2) ++ putNum 4 alarm.toNat ++
      putFlag asserted

/-- A response after its address character: length, command code, result code, tag, body, check (R185, Table 45). -/
def responseBytes (o : Outstanding) : Option (List Byte) :=
  o.answer.map fun a =>
    let body := putResult a.body
    let sent := putNum 1 (body.length + 3) ++ [o.code] ++ putNum 1 a.result.ctorIdx ++ [o.tag] ++ body
    sent ++ crcBytes sent

/-- The characters of a response as they travel: on the planning link the responder's address first, marked, every other character without the mark (R182, R185). -/
def responseCharacters (link : Link) (hall : Nat) (o : Outstanding) : Option (List LinkCharacter) :=
  (responseBytes o).map fun l =>
    (match link with
     | .planning => [{ mark := true, data := BitVec.ofNat 8 hall }]
     | .console => []) ++ l.map fun b => { mark := false, data := b }

end Sys2Proof.Machine
end

