-- ==== Sys2Proof/Machine/Links.lean ====
section
/-! DEFINITION. The link unit's handling of a request (R185, R186, R187), and the three ways a command reaches the blocks: reading only, changing the hall, changing the environment. -/

namespace Sys2Proof.Machine

/-- One link of the link unit. -/
def Links.side (l : Links) : Link → LinkState
  | .planning => l.planning
  | .console => l.console

/-- One link of the link unit changed. -/
def Links.setSide (l : Links) (link : Link) (f : LinkState → LinkState) : Links :=
  match link with
  | .planning => { l with planning := f l.planning }
  | .console => { l with console := f l.console }

/-- An answer of a result code alone. -/
def Answer.code (r : ResultCode) : Answer := { result := r, body := .empty }

/-- A receiver hears a frame's characters: on the planning link a marked character begins one, on the console link only the first character of an idle line (R182, R183). -/
def LinkState.hears (l : LinkState) (link : Link) : Bool :=
  match link with
  | .planning => l.receiver != .disabled
  | .console => l.receiver != .waiting

/-- A complete frame for this part is taken: the part runs, the link hears it, no request of the link is outstanding, and on the planning link the part has an address of its own (R177, R182, R183, R185). -/
def State.takes (s : State) (link : Link) : Bool :=
  s.power == .running && (s.links.side link).hears link && (s.links.side link).outstanding.isNone &&
    (link == .console || s.links.address != 0)

/-- What a receiver does once a request is complete: the planning link's is disabled while its response is sent (R182), the console link's waits for the line to be idle (R183). -/
def receiverAfter (link : Link) (answered : Bool) : Receiver :=
  match link with
  | .planning => if answered then .disabled else .waiting
  | .console => .waiting

/-- A request becomes outstanding, with its answer unless an owning block holds it back (R185). -/
def State.reply (s : State) (link : Link) (code : Nat) (tag : Byte) (answer : Option Answer) : State :=
  { s with links := s.links.setSide link fun l =>
      { l with outstanding := some { code := BitVec.ofNat 8 code, tag := tag, answer := answer }
               receiver := receiverAfter link answer.isSome } }

/-- What a receiver does next, unless the part does not run or the receiver is disabled (R177, R182, R183). -/
def State.setReceiver (s : State) (link : Link) (r : Receiver) : State :=
  if s.power = .running ∧ (s.links.side link).receiver ≠ .disabled then
    { s with links := s.links.setSide link fun l => { l with receiver := r } }
  else s

/-- The characters of the response that a link sends, once it is answered (R181, R185). -/
def Links.sending (l : Links) (link : Link) : Option (List LinkCharacter) :=
  (l.side link).outstanding.bind (responseCharacters link l.address)

/-- A command frame: taken or discarded (R183), given the answer for a body that does not decode (R185, R193), else answered by its block. -/
def frameOr (bad : State → Answer) (link : Link) (code : Nat) (tag : Byte) (body : Body α)
    (run : α → State → State × Option Answer) (s : State) : State :=
  if s.takes link then
    match body with
    | .malformed => s.reply link code tag (some (bad s))
    | .fields a => (run a s).1.reply link code tag (run a s).2
  else s.setReceiver link .waiting

/-- A command frame whose malformed body is answered FORMAT alone (R185). -/
def frame (link : Link) (code : Nat) (tag : Byte) (body : Body α) (run : α → State → State × Option Answer)
    (s : State) : State :=
  frameOr (fun _ => Answer.code .format) link code tag body run s

/-- A command that reads only (R186). -/
def reading (run : α → Env → Hall → Answer) (a : α) (s : State) : State × Option Answer :=
  (s, some (run a s.env s.hall))

/-- A change of the hall and what follows from it (log 4), the orders of earlier commands forgotten (log 23). -/
def State.act (s : State) (run : Hall → Hall) : State :=
  { s with hall := conclude s.env s.hall.keyAgain (run { s.hall with orders := [] }) }

/-- What a block makes of a command: its answer, unless it holds the answer back, and the change of the hall, if any. -/
structure Effect where
  answer : Option Answer
  change : Option (Hall → Hall)

/-- A command refused, or that finds nothing to change: the state stays as it stood (R186). -/
def Effect.unchanged (r : ResultCode) : Effect := { answer := some (Answer.code r), change := none }

/-- A command taken and answered DONE. -/
def Effect.done (f : Hall → Hall) : Effect := { answer := some (Answer.code .done), change := some f }

/-- A command that may change the hall. -/
def changing (run : α → Env → Hall → Effect) (a : α) (s : State) : State × Option Answer :=
  let v := run a s.env s.hall
  match v.change with
  | none => (s, v.answer)
  | some f => (s.act f, v.answer)

/-- What a block makes of a command that may change the environment too: mode, configuration or clock setting. -/
structure Verdict where
  answer : Answer
  env    : Env
  change : Option (Hall → Hall)

/-- A command refused, or that finds nothing to change (R186). -/
def Verdict.unchanged (e : Env) (r : ResultCode) : Verdict := { answer := Answer.code r, env := e, change := none }

/-- A command that may change the environment. -/
def governing (run : α → Env → Hall → Verdict) (a : α) (s : State) : State × Option Answer :=
  let v := run a s.env s.hall
  match v.change with
  | none => ({ s with env := v.env }, some v.answer)
  | some f => (State.act { s with env := v.env } f, some v.answer)

/-- An event on a hall line, taken only while the part runs (R177). -/
def event (env : Env → Env) (run : Env → Hall → Hall) (s : State) : State :=
  if s.power = .running then State.act { s with env := env s.env } (run (env s.env)) else s

/-- The internal timebase has reached a time (log 3). -/
def Env.reach (e : Env) (t : Nat) : Env := { e with timebase := max e.timebase t }

/-- A timer's expiry: without effect when the timer is stopped, else taken with the timebase at its limit (R26; log 3). -/
def expiry (limit : Hall → Option Nat) (run : Env → Hall → Hall) (s : State) : State :=
  match limit s.hall with
  | none => s
  | some t => event (·.reach t) run s

end Sys2Proof.Machine
end

