-- ==== Sys2Proof/Machine/Attention.lean ====
section
/-! DEFINITION. The attention unit's commands (R189, R190, R191), SET LINK RATE (R187), and the events of the link unit (R182, R183, R185). -/

namespace Sys2Proof.Machine

/-- The hall alarm output: asserted while the alarm set is not empty, released while the part does not run (R177, R191). -/
def State.alarmOutput (s : State) : Bool := s.power == .running && s.hall.attention.alarm != 0

/-- The members of a summary in ascending kind code, each with its subject (R189, Table 52). -/
def members (summary : Vector (Option Nat) 24) : List (Nat × Nat) :=
  (List.range 24).filterMap fun k => (read summary k).map fun subject => (k + 1, subject)

/-- The summary of a link. -/
def Attention.summary (a : Attention) : Link → Vector (Option Nat) 24
  | .planning => a.planning
  | .console => a.console

/-- The summary of a link emptied (R189). -/
def Attention.emptied (a : Attention) : Link → Attention
  | .planning => { a with planning := emptySummary }
  | .console => { a with console := emptySummary }

/-- POLL (R189). -/
def pollRun (link : Link) (_ : Unit) (s : State) : State × Option Answer :=
  ({ s with hall := { s.hall with attention := s.hall.attention.emptied link } },
    some { result := .done
           body := .poll (members (s.hall.attention.summary link)) s.hall.attention.alarm s.alarmOutput })

/-- SET ALARM MASK (R190). -/
def setMaskRun (mask : BitVec 32) (s : State) : State × Option Answer :=
  if mask.toNat < 2 ^ 24 then
    ({ s with env := { s.env with mask := mask.setWidth 24 } },
      some { result := .done, body := .mask (mask.setWidth 24) })
  else (s, some (Answer.code .format))

/-- ACK ALARM (R191). -/
def ackAlarmRun (_ : Unit) (s : State) : State × Option Answer :=
  ({ s with hall := { s.hall with attention := { s.hall.attention with alarm := 0 } } }, some (Answer.code .done))

/-- SET LINK RATE (R187): the new divisor waits for the response to be sent. -/
def setRateRun (link : Link) (divisor : Nat) (s : State) : State × Option Answer :=
  if 1023 < divisor then (s, some (Answer.code .format))
  else
    ({ s with links := s.links.setSide link fun l => { l with newDivisor := some divisor } },
      some { result := .done, body := .divisor divisor })

/-- The last character of a response has been sent: nothing is outstanding, the planning link's receiver is enabled again, and a new rate begins (R182, R185, R187). -/
def LinkState.sent (l : LinkState) : LinkState :=
  match l.outstanding with
  | some o =>
    if o.answer.isSome then
      { l with outstanding := none, divisor := l.newDivisor.getD l.divisor, newDivisor := none
               receiver := if l.receiver = .disabled then .waiting else l.receiver }
    else l
  | none => l

/-- SET ALARM MASK (R190). -/
def execSetAlarmMask (tag : Byte) (body : Body (BitVec 32)) (s : State) : Host.Outcome State Fault Refusal :=
  .next (frame .planning 20 tag body setMaskRun s)

/-- POLL (R189). -/
def execPoll (link : Link) (tag : Byte) (body : Body Unit) (s : State) : Host.Outcome State Fault Refusal :=
  .next (frame link 21 tag body (pollRun link) s)

/-- SET LINK RATE (R187). -/
def execSetLinkRate (link : Link) (tag : Byte) (body : Body Nat) (s : State) : Host.Outcome State Fault Refusal :=
  .next (frame link 22 tag body (setRateRun link) s)

/-- ACK ALARM (R191). -/
def execAckAlarm (tag : Byte) (body : Body Unit) (s : State) : Host.Outcome State Fault Refusal :=
  .next (frame .console 38 tag body ackAlarmRun s)

/-- A frame whose code is not a command of its link, answered UNKNOWN_COMMAND (R185). -/
def execUnknownCommand (link : Link) (code tag : Byte) (s : State) : Host.Outcome State Fault Refusal :=
  .next (if s.takes link then s.reply link code.toNat tag (some (Answer.code .unknownCommand))
    else s.setReceiver link .waiting)

/-- A receiver after a gap longer than 20 character times: the frame being received is discarded, one for another hall is ignored as before; the console link is then idle (R182, R183). -/
def afterGap (link : Link) (r : Receiver) : Receiver :=
  if link = .console then .idle else if r = .ignoring then .ignoring else .waiting

/-- A receiver after a discard: a marked character begins the next frame by its address, else the link waits (R182, R183). -/
def afterDiscard (hall : Nat) (link : Link) (cause : Discard) : Receiver :=
  match link, cause with
  | .planning, .marked address => markedReceiver hall address
  | _, _ => .waiting

/-- A gap longer than 20 character times (R183). -/
def execCharacterGapTimeout (link : Link) (s : State) : Host.Outcome State Fault Refusal :=
  .next (s.setReceiver link (afterGap link (s.links.side link).receiver))

/-- A break: the frame being received is discarded, nothing else is touched (R183). -/
def execLinkBreak (link : Link) (s : State) : Host.Outcome State Fault Refusal :=
  .next (s.setReceiver link .waiting)

/-- The last character of a response has been sent (R185, R187). -/
def execResponseSent (link : Link) (s : State) : Host.Outcome State Fault Refusal :=
  .next (if s.power = .running then { s with links := s.links.setSide link LinkState.sent } else s)

/-- A frame is discarded, with no response and nothing posted; a marked character begins the next (R182, R183). -/
def execFrameDiscard (link : Link) (cause : Discard) (s : State) : Host.Outcome State Fault Refusal :=
  .next (s.setReceiver link (afterDiscard s.links.address link cause))

end Sys2Proof.Machine
end

