-- ==== Sys2Proof/Machine/Bookings.lean ====
section
/-! DEFINITION. The commands of the booking table: ENTER, LOAD BLOCK, AMEND, WITHDRAW, FETCH, LIST (R17 to R22), and AMEND and WITHDRAW of a booking with a carriage (R147 to R150, R155, R156). -/

namespace Sys2Proof.Machine

/-- The answer of a refused booking: its code, and number and mark of a conflict (R6). -/
def refusalAnswer (r : ResultCode × Option (Nat × Bool)) : Answer :=
  match r.2 with
  | some (number, parked) => { result := r.1, body := .booking number parked }
  | none => Answer.code r.1

/-- The carriage that serves a booking, with its transmitter. -/
def Hall.served (h : Hall) (number : Nat) : Option (Nat × Carriage) :=
  (h.servedBy number).bind fun t => (h.carriage t).map fun c => (t, c)

/-- What the entry checks leave of a command: refused with their result, or what follows (R6). -/
def Effect.checked (result : Option (ResultCode × Option (Nat × Bool))) (follows : Effect) : Effect :=
  match result with
  | some r => { answer := some (refusalAnswer r), change := none }
  | none => follows

/-- ENTER of one record (R17). -/
def enterRun (b : Offered) (e : Env) (h : Hall) : Effect := .checked (entryCheck e h false b) (.done (addBooking e b))

/-- The hall after one record of a block: the record added when it passes (R18). -/
def loadOne (e : Env) (b : Offered) (h : Hall) : Hall := if (entryCheck e h false b).isNone then addBooking e b h else h

/-- The records of a block, each checked against a table that holds those accepted before it (R18). -/
def loadRecords (e : Env) : List Offered → Hall → Hall × List (ResultCode × Option (Nat × Bool))
  | [], h => (h, [])
  | b :: rest, h =>
    ((loadRecords e rest (loadOne e b h)).1,
      (entryCheck e h false b).getD (.done, none) :: (loadRecords e rest (loadOne e b h)).2)

/-- LOAD BLOCK (R18). -/
def loadRun (l : List Offered) (e : Env) (h : Hall) : Effect :=
  if l.isEmpty || 8 < l.length then .unchanged .format
  else
    { answer := some { result := .done, body := .block (loadRecords e l h).2 }
      change := some fun h => (loadRecords e l h).1 }

/-- A parking field differs (R147). -/
def parkingChange (old new : Offered) : Bool :=
  old.transmitter != new.transmitter || old.antenna != new.antenna || old.setting != new.setting ||
  old.frequency != new.frequency || old.start != new.start || old.days != new.days ||
  old.firstDay != new.firstDay || old.lastDay != new.lastDay || old.season != new.season

/-- An amendment of a preparing booking: applied, the changeover abandoned, the occurrence readmitted when its day still carries it (R150). -/
def amendPreparing (e : Env) (t : Nat) (c : Carriage) (b : Offered) (h : Hall) : Hall :=
  let h := abandon e t (replaceBooking e b h)
  if carriesDay h.calendar.entries b c.day then readmit e b.number c.day h else h

/-- An amendment applied at once to a booking on air (R149). -/
def amendOnAir (e : Env) (t : Nat) (c : Carriage) (old b : Offered) (h : Hall) : Hall :=
  let h := replaceBooking e b h
  let h := if b.power = old.power || c.phase = .ending then h
    else setPower e t b.power (h.mapCarriage t fun c => { c with power := b.power })
  if b.duration = old.duration || c.phase = .ending then h
  else
    let stop := c.start + b.duration * 60
    moveStop e t c.booking c.day stop (h.mapCarriage t fun c => { c with stop := stop })

/-- AMEND of a booking with a carriage: the first case that applies (R147). -/
def amendServed (e : Env) (t : Nat) (c : Carriage) (old : Booking) (b : Offered) (h : Hall) : Effect :=
  if old.state = .withdrawing then .unchanged .busy
  else if !c.onTheAir then .done (amendPreparing e t c b)
  else if (h.slotOf t).isSome then .unchanged .busy
  else if parkingChange old.fields b || (e.antConfig c.antenna).rating < b.power then
    { answer := some (Answer.code .parked)
      change := some fun h => post e .amendmentParked b.number (h.setSlot t (some b)) }
  else .done (amendOnAir e t c old.fields b)

/-- AMEND of a record that has passed its checks (R19, R147). -/
def amendChecked (b : Offered) (e : Env) (h : Hall) : Effect :=
  match h.booking b.number with
  | none => .unchanged .unknown
  | some old =>
    match h.served b.number with
    | none => .done (replaceBooking e b)
    | some (t, c) => amendServed e t c old b h

/-- AMEND (R19, R147). -/
def amendRun (b : Offered) (e : Env) (h : Hall) : Effect := .checked (entryCheck e h true b) (amendChecked b e h)

/-- WITHDRAW with NOW of a booking on air (R156). -/
def withdrawNow (e : Env) (t number : Nat) (c : Carriage) (h : Hall) : Hall :=
  let h := stopCarriage e t c.stop false (dropParked e t h)
  removeBooking e number (dropCues e t number c.day h)

/-- WITHDRAW without NOW of a booking on air (R155). -/
def withdrawLater (e : Env) (t number : Nat) (old : Booking) (h : Hall) : Hall :=
  refresh e old.fields.transmitter ((dropParked e t h).mapBooking number fun b => { b with state := .withdrawing })

/-- WITHDRAW (R20, R155, R156); a carriage that has not aired and is back at its work is abandoned, for a WITHDRAWING record too (log 58). -/
def withdrawRun (w : WithdrawArgs) (e : Env) (h : Hall) : Effect :=
  match h.booking w.number with
  | none => .unchanged .unknown
  | some old =>
    match h.served w.number with
    | none => .done (removeBooking e w.number)
    | some (t, c) =>
      if !c.onTheAir then .done fun h => removeBooking e w.number (abandon e t h)
      else if w.now then .done (withdrawNow e t w.number c)
      else if old.state = .withdrawing then .unchanged .done
      else .done (withdrawLater e t w.number old)

/-- FETCH (R21). -/
def fetchRun (number : Nat) (_ : Env) (h : Hall) : Answer :=
  match h.booking number with
  | none => Answer.code .unknown
  | some b => { result := .done, body := .record b (parkedOf h number) }

/-- A record meets every selector given (R22). -/
def listMatches (l : ListArgs) (b : Offered) : Bool :=
  l.transmitter.all (· == b.transmitter) && l.antenna.all (fun a => b.antenna == a || b.alternate == some a) &&
  l.season.all (· == b.season)

/-- LIST (R22). -/
def listRun (l : ListArgs) (_ : Env) (h : Hall) : Answer :=
  if l.start < 1 || 9999 < l.start || l.transmitter.any (Config.rows ≤ ·) || l.antenna.any (Config.columns ≤ ·) ||
      l.season.any (fun s => s < 1 || 255 < s) then Answer.code .format
  else
    let found := (h.table.records.filter fun b => l.start ≤ b.fields.number && listMatches l b.fields).map (·.fields.number)
    { result := .done, body := .numbers (Config.listLimit < found.length) (found.take Config.listLimit) }

/-- ENTER (R17). -/
def execEnter (tag : Byte) (body : Body Offered) (s : State) : Host.Outcome State Fault Refusal :=
  .next (frame .planning 1 tag body (changing enterRun) s)

/-- LOAD BLOCK (R18). -/
def execLoadBlock (tag : Byte) (body : Body (List Offered)) (s : State) : Host.Outcome State Fault Refusal :=
  .next (frame .planning 2 tag body (changing loadRun) s)

/-- AMEND (R19, R147). -/
def execAmend (tag : Byte) (body : Body Offered) (s : State) : Host.Outcome State Fault Refusal :=
  .next (frame .planning 3 tag body (changing amendRun) s)

/-- WITHDRAW (R20, R155, R156). -/
def execWithdraw (tag : Byte) (body : Body WithdrawArgs) (s : State) : Host.Outcome State Fault Refusal :=
  .next (frame .planning 4 tag body (changing withdrawRun) s)

/-- FETCH (R21). -/
def execFetch (link : Link) (tag : Byte) (body : Body Nat) (s : State) : Host.Outcome State Fault Refusal :=
  .next (frame link 5 tag body (reading fetchRun) s)

/-- LIST (R22). -/
def execList (tag : Byte) (body : Body ListArgs) (s : State) : Host.Outcome State Fault Refusal :=
  .next (frame .planning 6 tag body (reading listRun) s)

end Sys2Proof.Machine
end

