-- ==== Sys2Proof/Machine/Calendar.lean ====
section
/-! DEFINITION. The commands and events of the clock and calendar block: SET CLOCK (R32), CALENDAR ADD, REMOVE, READ (R38, R39, R41), the second pulse, the pulse watch and the internal advance (R27 to R30). -/

namespace Sys2Proof.Machine

/-- The calendar changed, the live season found anew, everything rescanned (R37, R38, R39). -/
def changeCalendar (e : Env) (entries : List SeasonEntry) (h : Hall) : Hall :=
  rescan e (findLive e { h with calendar := { h.calendar with entries := entries } })

/-- CALENDAR ADD's checks in order (R38). -/
def calendarAddRefusal (e : Env) (h : Hall) (s : SeasonEntry) : Option ResultCode :=
  if s.id < 1 || 255 < s.id || Config.lastDay < s.firstDay then some .format
  else if !e.unset && s.firstDay ≤ e.clock.day then some .past
  else if h.calendar.entries.any fun x => x.id == s.id || x.firstDay == s.firstDay then some .exists
  else if Config.calendarCapacity ≤ h.calendar.entries.length then some .full
  else none

/-- CALENDAR ADD (R38). -/
def calendarAddRun (s : SeasonEntry) (e : Env) (h : Hall) : Effect :=
  match calendarAddRefusal e h s with
  | some r => .unchanged r
  | none => .done fun h => changeCalendar e (insertBy (fun x y => x.firstDay < y.firstDay) s h.calendar.entries) h

/-- CALENDAR REMOVE's checks in order (R39). -/
def calendarRemoveRefusal (e : Env) (h : Hall) (season : Nat) : Option ResultCode :=
  if season < 1 || 255 < season then some .format
  else if !h.calendar.entries.any (·.id == season) then some .unknown
  else if namesOf h season != 0 then some .inUse
  else if !e.unset && liveOn h.calendar.entries e.clock.day == some season then some .past
  else none

/-- CALENDAR REMOVE (R39). -/
def calendarRemoveRun (season : Nat) (e : Env) (h : Hall) : Effect :=
  match calendarRemoveRefusal e h season with
  | some r => .unchanged r
  | none => .done fun h => changeCalendar e (h.calendar.entries.filter (·.id != season)) h

/-- CALENDAR READ (R41). -/
def calendarReadRun (_ : Unit) (e : Env) (h : Hall) : Answer where
  result := .done
  body := .calendar { day := e.clock.day, second := e.clock.second } e.clock.status e.clock.setting.isSome h.calendar.live
    (h.calendar.entries.map fun s => { entry := s, ended := seasonEnded e h s.id, names := namesOf h s.id })

/-- The FORMAT test of SET CLOCK (R32). -/
def clockValueOk (v : ClockValue) : Bool := v.day ≤ Config.lastDay && v.second < Config.daySeconds

/-- A setting becomes the pending setting (R32). -/
def setPending (v : ClockValue) (e : Env) : Env := { e with clock := { e.clock with setting := some v } }

/-- SET CLOCK sent to this hall (R32). -/
def setClockRun (v : ClockValue) (e : Env) (_ : Hall) : Verdict :=
  if clockValueOk v then { answer := Answer.code .done, env := setPending v e, change := none }
  else .unchanged e .format

/-- SET CLOCK sent to address 0: taken by every hall whose planning link has no request outstanding, answered by none (R32, R183, R185). -/
def broadcastClock (body : Body ClockValue) (s : State) : State :=
  let s := s.setReceiver .planning .waiting
  match body with
  | .malformed => s
  | .fields v =>
    if s.power = .running && s.links.planning.outstanding.isNone && clockValueOk v then
      { s with env := setPending v s.env }
    else s

/-- An advance, a pulse or a watch of the clock taken, with what is handed on (R31). -/
def clockEvent (moved : Clock × Handing) (t : Nat) (before : Env → Hall → Hall) (s : State) : State :=
  event (fun e => { e.reach t with clock := moved.1 }) (fun e h => handOn e s.env.clock moved.2 (before e h)) s

/-- CALENDAR ADD (R38). -/
def execCalendarAdd (tag : Byte) (body : Body SeasonEntry) (s : State) : Host.Outcome State Fault Refusal :=
  .next (frame .planning 7 tag body (changing calendarAddRun) s)

/-- CALENDAR REMOVE (R39). -/
def execCalendarRemove (tag : Byte) (body : Body Nat) (s : State) : Host.Outcome State Fault Refusal :=
  .next (frame .planning 8 tag body (changing calendarRemoveRun) s)

/-- CALENDAR READ (R41). -/
def execCalendarRead (tag : Byte) (body : Body Unit) (s : State) : Host.Outcome State Fault Refusal :=
  .next (frame .planning 9 tag body (reading calendarReadRun) s)

/-- SET CLOCK (R32). -/
def execSetClock (dest : Addressing) (body : Body ClockValue) (s : State) : Host.Outcome State Fault Refusal :=
  match dest with
  | .addressed tag => .next (frame .planning 10 tag body (governing setClockRun) s)
  | .broadcast => .next (broadcastClock body s)

/-- SECOND_PULSE: a pulse at a time of the timebase (R27, R29, R30; log 3). A pulse that is taken is judged alone, also when its time lies past the limit of the pulse watch or past internal advances not yet taken (log 41). -/
def execSecondPulse (time : Nat) (s : State) : Host.Outcome State Fault Refusal :=
  let t := max s.env.timebase time
  .next (clockEvent (s.env.clock.pulse t) t (fun _ h => h) s)

/-- PULSE_WATCH_EXPIRY (R28). -/
def execPulseWatchExpiry (s : State) : Host.Outcome State Fault Refusal :=
  match s.env.clock.watch with
  | none => .next s
  | some t => .next (clockEvent (s.env.clock.watchEnds t) t (fun e h => post e .holdover 0 h) s)

/-- INTERNAL_ADVANCE (R28, R30, R42). -/
def execInternalAdvance (s : State) : Host.Outcome State Fault Refusal :=
  if s.env.clock.status = .locked then .next s
  else .next (clockEvent s.env.clock.tick (s.env.clock.lastAdvance + 1000) (fun _ h => h) s)

end Sys2Proof.Machine
end

