-- ==== Sys2Proof/Machine/Configure.lean ====
section
/-! DEFINITION. Hall control's commands of the planning link: configuration writes (R93, R81, R171, R173), COMMISSION (R174), RECONFIGURE (R175), and the resume scan of hall control (R169). -/

namespace Sys2Proof.Machine

/-- The fields of a hall record are in range (R170, R171 check 1). -/
def hallRecordOk (r : HallRecord) : Bool :=
  r.nearlyFull ≤ 256 && 5 ≤ r.guard && r.guard ≤ 100 && r.guard % 5 == 0 && 15 ≤ r.horizon && r.horizon ≤ 360 &&
  r.margin ≤ 60 && 2 ≤ r.travel && r.travel ≤ 20 && 5 ≤ r.tuneGrace && r.tuneGrace ≤ 120 &&
  16 ≤ r.floor && r.floor ≤ 255 && 12 ≤ r.tripVswr && r.tripVswr ≤ 30 && 11 ≤ r.warnVswr && r.warnVswr < r.tripVswr &&
  2 ≤ r.recycleDelay && r.recycleDelay ≤ 60 && r.retryLimit ≤ 5 && 1 ≤ r.cleanRun && r.cleanRun ≤ 30

/-- The fields of a transmitter record are in range (R93). -/
def txConfigOk (c : TxConfig) : Bool :=
  isFrequency c.minFreq && isFrequency c.maxFreq && c.minFreq < c.maxFreq && isPower c.rated &&
  5 ≤ c.tuneBase && c.tuneBase ≤ 120 && c.tuneRate ≤ 600 && 1 ≤ c.rfDown && c.rfDown ≤ 30

/-- Windows stand in ascending order, each low above the high before it (R81). -/
def windowsAscend : List Band → Bool
  | a :: b :: rest => a.high < b.low && windowsAscend (b :: rest)
  | _ => true

/-- The fields of an antenna record are in range (R81). -/
def antConfigOk (c : AntConfig) : Bool :=
  c.bearing ≤ 359 && isPower c.rating && 1 ≤ c.windows.length && c.windows.length ≤ 4 &&
  (c.windows.all fun w => isFrequency w.low && isFrequency w.high && w.low < w.high) && windowsAscend c.windows &&
  c.maxSlew ≤ 6 && 1 ≤ c.settingTime && c.settingTime ≤ 60

/-- The answer to CONFIGURE HALL carries the hall record and the mode whatever the result (R171). -/
def hallAnswer (e : Env) (r : ResultCode) : Answer := { result := r, body := .hall e.config.hall e.mode }

/-- CONFIGURE HALL's checks in order (R171). -/
def configureHallRefusal (e : Env) (h : Hall) (r : HallRecord) : Option ResultCode :=
  if !hallRecordOk r then some .format
  else if e.mode ≠ .configuring then some .mode
  else if r.guard ≠ e.config.hall.guard && !h.table.records.isEmpty then some .inUse
  else none

/-- The environment with an offered hall record in place (R171). -/
def withHall (e : Env) (r : HallRecord) : Env := { e with config := { e.config with hall := r } }

/-- An offered hall record taken, the nearly-full test made when its level is new (R5, R171). -/
def takeHall (r : HallRecord) (e : Env) : Verdict where
  answer := hallAnswer (withHall e r) .done
  env := withHall e r
  change := if r.nearlyFull = e.config.hall.nearlyFull then none else some (nearlyFullTest (withHall e r))

/-- CONFIGURE HALL refused with a code (R171). -/
def refuseHall (e : Env) (code : ResultCode) : Verdict := { answer := hallAnswer e code, env := e, change := none }

/-- CONFIGURE HALL (R171). -/
def configureHallRun (r : HallRecord) (e : Env) (h : Hall) : Verdict :=
  (configureHallRefusal e h r).elim (takeHall r e) (refuseHall e)

/-- The lowest booking number that fails a test. -/
def lowestUnfit (h : Hall) (fits : Offered → Bool) : Option Nat :=
  (h.table.records.find? fun b => !fits b.fields).map (·.fields.number)

/-- A transmitter record with the offered configuration in place. -/
def withTx (e : Env) (w : TxWrite) : Env :=
  { e with config := { e.config with txs := write e.config.txs w.transmitter w.config } }

/-- The configuration an antenna write leaves: for the test load only present and power rating are taken (R81). -/
def antennaTaken (w : AntWrite) : AntConfig :=
  if w.antenna = Config.testLoad then
    { Config.antDefaults with present := w.config.present, rating := w.config.rating }
  else w.config

/-- An antenna record with the offered configuration in place. -/
def withAnt (e : Env) (w : AntWrite) : Env :=
  { e with config := { e.config with antennas := write e.config.antennas w.antenna (antennaTaken w) } }

/-- A booking naming the transmitter fits its record (R173). -/
def fitsTx (e : Env) (t : Nat) (b : Offered) : Bool :=
  b.transmitter != t ||
    ((e.txConfig t).present && (e.txConfig t).minFreq ≤ b.frequency && b.frequency ≤ (e.txConfig t).maxFreq &&
      b.power ≤ (e.txConfig t).rated)

/-- A booking naming the antenna, as main or alternate, fits its record (R173). -/
def fitsAnt (e : Env) (a : Nat) (b : Offered) : Bool :=
  (b.antenna != a ||
    ((e.antConfig a).present && inBand (e.antConfig a) b.frequency && b.power ≤ (e.antConfig a).rating &&
      admits (e.antConfig a) b.setting)) &&
  (b.alternate != some a ||
    ((e.antConfig a).present && inBand (e.antConfig a) b.frequency && b.power ≤ (e.antConfig a).rating))

/-- A transmitter has become present or absent. -/
def presenceChanged (old new : Env) (t : Nat) : Bool := (old.txConfig t).present != (new.txConfig t).present

/-- The live part and the monitor record of a transmitter made present or absent, at their first values (R93, R133): the displayed ratio, the latest reflection and the warned occurrence too, which R138 and R145 call none only until the first evaluation after start-up (log 77). -/
def freshTx (t : Nat) (h : Hall) : Hall := (h.setTx t fun _ => Tx.start).setMonitor t fun _ => Monitor.start

/-- What a transmitter write does to the record's live part: it starts one, discards one with its local route (R75), or leaves it (R93). -/
def startOrDiscardTx (old new : Env) (t : Nat) (h : Hall) : Hall :=
  if !presenceChanged old new t then h
  else if (new.txConfig t).present then
    let h := send (.statusRequest t) (freshTx t h)
    if new.rfPresent t then rfOff new t h else h
  else withdrawRoute t (freshTx t h)

/-- The latest detector pair of a transmitter made present or absent returns to its first value (R133). -/
def freshPair (old new : Env) (t : Nat) : Env :=
  if presenceChanged old new t then { new with inputs := { new.inputs with pairs := write new.inputs.pairs t (0, 0) } }
  else new

/-- A configuration write refused with IN_USE names the lowest booking (R173). -/
def inUseAnswer (number : Nat) : Answer := { result := .inUse, body := .booking number false }

/-- CONFIGURE TRANSMITTER (R93, R173). -/
def configureTransmitterRun (w : TxWrite) (e : Env) (h : Hall) : Verdict :=
  if Config.rows ≤ w.transmitter || !txConfigOk w.config then .unchanged e .format
  else if e.mode ≠ .configuring then .unchanged e .mode
  else match lowestUnfit h (fitsTx (withTx e w) w.transmitter) with
    | some n => { answer := inUseAnswer n, env := e, change := none }
    | none =>
      { answer := Answer.code .done, env := freshPair e (withTx e w) w.transmitter
        change := some (startOrDiscardTx e (withTx e w) w.transmitter) }

/-- CONFIGURE ANTENNA (R81, R173); every field is judged, those not taken for the test load too (log 53). -/
def configureAntennaRun (w : AntWrite) (e : Env) (h : Hall) : Verdict :=
  if Config.columns ≤ w.antenna || !antConfigOk w.config then .unchanged e .format
  else if e.mode ≠ .configuring then .unchanged e .mode
  else match lowestUnfit h (fitsAnt (withAnt e w) w.antenna) with
    | some n => { answer := inUseAnswer n, env := e, change := none }
    | none => { answer := Answer.code .done, env := withAnt e w, change := some id }

/-- One entry of the resume list in the resume scan: readmitted and marked, or removed when its transmitter is HELD or LOCAL (R169). -/
def resumeOne (e : Env) (r : Resume) (h : Hall) : Hall :=
  match h.booking r.booking with
  | none => h
  | some b =>
    if r.resumed || endOn b.fields r.day ≤ e.now then h
    else
      let x := h.tx b.fields.transmitter
      if x.state = .held || x.mode = .console then { h with resume := h.resume.filter (·.booking != r.booking) }
      else
        readmit e r.booking r.day
          { h with resume := h.resume.map fun y => if y.booking == r.booking then { y with resumed := true } else y }

/-- The resume scan of hall control (R169), in the order in which the entries joined the list (log 60). -/
def resumeScan (e : Env) (h : Hall) : Hall := h.resume.foldl (fun h r => resumeOne e r h) h

/-- The hall RUNNING, then the resume scan and the rescan (R169, R174). -/
def startRunning (e : Env) (h : Hall) : Hall := rescan e (resumeScan e h)

/-- The lowest booking that fails check 3, 4, 5 or 6 of Table 5, with its code (R174 check 4). -/
def firstUnfit (e : Env) (h : Hall) : Option (ResultCode × Nat) :=
  h.table.records.findSome? fun b => (unfit e b.fields).map fun r => (r, b.fields.number)

/-- COMMISSION's checks in order (R174). -/
def commissionRefusal (e : Env) (h : Hall) : Option Answer :=
  if e.mode ≠ .configuring then some (Answer.code .mode)
  else if e.unset then some (Answer.code .unknown)
  else if !(allRows.any fun t => (e.txConfig t).present) || !(allCols.any fun a => (e.antConfig a).present) then
    some (Answer.code .range)
  else (firstUnfit e h).map fun r => { result := r.1, body := .booking r.2 false }

/-- COMMISSION (R174). -/
def commissionRun (_ : Unit) (e : Env) (h : Hall) : Verdict :=
  match commissionRefusal e h with
  | some a => { answer := a, env := e, change := none }
  | none =>
    let e' := { e with mode := .running }
    { answer := Answer.code .done, env := e', change := some fun h => resumeScan e' (rescan e' h) }

/-- RECONFIGURE empties the cue list, the readmission list and the resume list (R48, R168, R175). -/
def emptyLists (h : Hall) : Hall :=
  { h with lookahead := { cues := [], readmit := [], short := false }, resume := [] }

/-- RECONFIGURE (R175). -/
def reconfigureRun (_ : Unit) (e : Env) (h : Hall) : Verdict :=
  match e.mode with
  | .running => .unchanged e .mode
  | .configuring => .unchanged e .done
  | .stopped =>
    if allRows.any fun t => (h.carriage t).isSome then .unchanged e .busy
    else { answer := Answer.code .done, env := { e with mode := .configuring }, change := some emptyLists }

/-- CONFIGURE HALL (R171). -/
def execConfigureHall (tag : Byte) (body : Body HallRecord) (s : State) : Host.Outcome State Fault Refusal :=
  .next (frameOr (fun s => hallAnswer s.env .format) .planning 15 tag body (governing configureHallRun) s)

/-- COMMISSION (R174). -/
def execCommission (tag : Byte) (body : Body Unit) (s : State) : Host.Outcome State Fault Refusal :=
  .next (frame .planning 16 tag body (governing commissionRun) s)

/-- RECONFIGURE (R175). -/
def execReconfigure (tag : Byte) (body : Body Unit) (s : State) : Host.Outcome State Fault Refusal :=
  .next (frame .planning 17 tag body (governing reconfigureRun) s)

/-- CONFIGURE TRANSMITTER (R93, R173). -/
def execConfigureTransmitter (tag : Byte) (body : Body TxWrite) (s : State) : Host.Outcome State Fault Refusal :=
  .next (frame .planning 18 tag body (governing configureTransmitterRun) s)

/-- CONFIGURE ANTENNA (R81, R173). -/
def execConfigureAntenna (tag : Byte) (body : Body AntWrite) (s : State) : Host.Outcome State Fault Refusal :=
  .next (frame .planning 19 tag body (governing configureAntennaRun) s)

end Sys2Proof.Machine
end

