-- ==== Sys2Proof/Machine/HallControl.lean ====
section
/-! DEFINITION. The console's commands on the hall and on parked amendments: TAKE AMENDMENT (R151, R152), DROP AMENDMENT (R153), HALL STOP (R167, R168), HALL RESUME (R169). -/

namespace Sys2Proof.Machine

/-- The occurrence on air continues under the new fields (R152). -/
def continues (e : Env) (h : Hall) (t day : Nat) (b : Offered) : Bool :=
  b.transmitter == t && carriesDay h.calendar.entries b day && startOn b day ≤ e.now && e.now < endOn b day

/-- The occurrence on air does not continue: its cues dropped, the carriage ENDING (R152). -/
def cutShort (e : Env) (t : Nat) (c : Carriage) (h : Hall) : Hall :=
  enterEnding e t c.lost (dropCues e t c.booking c.day h)

/-- The occurrence on air continues: new fields, STOP moved, antenna resolved again with the column it claims counted usable, re-preparation (R152). -/
def carryOn (e : Env) (t : Nat) (c : Carriage) (b : Offered) (h : Hall) : Hall :=
  let c' := { c with start := startOn b c.day, stop := endOn b c.day, frequency := b.frequency, power := b.power
                     setting := b.setting }
  let h := moveStop e t c.booking c.day c'.stop (h.setCarriage t (some c'))
  match resolveBy e (fun a => h.claim a == some t || usable e h t a) b with
  | none => cutShort e t c' h
  | some (a, s) =>
    let h := grantClaim e t a h
    let h := h.setCarriage t (some { c' with antenna := a, setting := s, substituted := a != b.antenna })
    let h := if a = b.antenna then h else post e .substituted b.number h
    reprepare e t (b.frequency != c.frequency) (refresh e t h)

/-- TAKE AMENDMENT taken (R151). -/
def takeAmendment (e : Env) (t : Nat) (h : Hall) : Hall :=
  let h := applyParked e t h
  match h.carriage t with
  | none => h
  | some c =>
    if c.phase = .ending then h
    else match h.booking c.booking with
      | none => h
      | some b => if continues e h t c.day b.fields then carryOn e t c b.fields h else cutShort e t c h

/-- TAKE AMENDMENT (R151). -/
def takeAmendmentRun (t : Nat) (e : Env) (h : Hall) : Effect :=
  if Config.rows ≤ t then .unchanged .format
  else if (h.slotOf t).isNone then .unchanged .unknown
  else .done (takeAmendment e t)

/-- DROP AMENDMENT (R153). -/
def dropAmendmentRun (t : Nat) (e : Env) (h : Hall) : Effect :=
  if Config.rows ≤ t then .unchanged .format
  else if (h.slotOf t).isNone then .unchanged .unknown
  else .done (dropParked e t)

/-- An occurrence cut by a stop enters the resume list (R168). -/
def addResume (number day : Nat) (l : List Resume) : List Resume :=
  if l.any fun r => r.booking == number && r.day == day then l
  else l.filter (·.booking != number) ++ [{ booking := number, day := day, resumed := false }]

/-- One carriage cut by HALL STOP (R167 step 1; log 14). -/
def stopOne (e : Env) (t : Nat) (h : Hall) : Hall :=
  match h.carriage t with
  | none => h
  | some c =>
    if c.phase = .ending then h
    else
      let h := { h with resume := addResume c.booking c.day h.resume }
      if c.phase = .working ∨ c.phase = .ready then endWith e t .cut h else enterEnding e t .cut h

/-- RF OFF of a present transmitter in mode REMOTE (R167 step 3). -/
def stopRf (e : Env) (t : Nat) (h : Hall) : Hall :=
  if (e.txConfig t).present && (h.tx t).mode = .remote then rfOff e t h else h

/-- HALL STOP (R167), by ascending transmitter (log 59); e has the mode STOPPED. -/
def stopHall (e : Env) (h : Hall) : Hall :=
  let h := forEach allRows (stopOne e) h
  let h := forEach allRows (stopRf e) (enforceRf e h)
  post e .hallStopped 0 h

/-- HALL STOP (R167, R172). -/
def hallStopRun (_ : Unit) (e : Env) (_ : Hall) : Verdict :=
  match e.mode with
  | .configuring => .unchanged e .mode
  | .stopped => .unchanged e .done
  | .running =>
    { answer := Answer.code .done, env := { e with mode := .stopped }, change := some (stopHall { e with mode := .stopped }) }

/-- HALL RESUME (R169, R172). -/
def hallResumeRun (_ : Unit) (e : Env) (_ : Hall) : Verdict :=
  match e.mode with
  | .configuring => .unchanged e .mode
  | .running => .unchanged e .done
  | .stopped =>
    { answer := Answer.code .done, env := { e with mode := .running }
      change := some (startRunning { e with mode := .running }) }

/-- TAKE AMENDMENT (R151). -/
def execTakeAmendment (tag : Byte) (body : Body Nat) (s : State) : Host.Outcome State Fault Refusal :=
  .next (frame .console 34 tag body (changing takeAmendmentRun) s)

/-- DROP AMENDMENT (R153). -/
def execDropAmendment (tag : Byte) (body : Body Nat) (s : State) : Host.Outcome State Fault Refusal :=
  .next (frame .console 35 tag body (changing dropAmendmentRun) s)

/-- HALL STOP (R167). -/
def execHallStop (tag : Byte) (body : Body Unit) (s : State) : Host.Outcome State Fault Refusal :=
  .next (frame .console 36 tag body (governing hallStopRun) s)

/-- HALL RESUME (R169). -/
def execHallResume (tag : Byte) (body : Body Unit) (s : State) : Host.Outcome State Fault Refusal :=
  .next (frame .console 37 tag body (governing hallResumeRun) s)

end Sys2Proof.Machine
end

