-- ==== Sys2Proof/Machine/Locks.lean ====
section
/-! DEFINITION. The console's commands on the matrix: LOCK ANTENNA (R157 to R161), FREE ANTENNA (R162), CLEAR SUSPECT (R163), CLEAR STUCK (R91), and the requests held until the survey ends (R89). -/

namespace Sys2Proof.Machine

/-- A request that waits for the survey joins those held (R89, R179; log 7). -/
def holdRequest (i : Instr) (h : Hall) : Hall :=
  h.mapMatrix fun m => { m with survey := m.survey.map fun s => { s with held := s.held ++ [i] } }

/-- A request of the matrix: held during the survey, else made of it what its block makes (R89). -/
def matrixRequest (i : Instr) (run : α → Env → Hall → Effect) (a : α) (e : Env) (h : Hall) : Effect :=
  if h.matrix.survey.isSome then { answer := none, change := some (holdRequest i) } else run a e h

/-- A lock on a column claimed by a carriage in KEYING or ON_AIR (R159; log 15). -/
def lockLive (e : Env) (t a : Nat) (h : Hall) : Hall :=
  let answer := substituteOnAir e t false h
  let h := enforceOne e t (makePending a answer.2)
  let h := if answer.1 then h
    else
      let lost := ((h.carriage t).map Carriage.lost).getD .missed
      let h := endingForSent e t lost h
      if h.claim a = some t then releaseClaim t a h else h
  refresh e t (openColumn .lock a h)

/-- A lock on a column claimed by a carriage in RF_DOWN, WORKING or READY (R158). -/
def lockEarly (e : Env) (t a : Nat) (h : Hall) : Hall :=
  refresh e t (resolveAgain e t (releaseClaim t a (openColumn .lock a (makePending a h))))

/-- A lock on any other column that is not empty; the claim of a carriage in ENDING is withdrawn (R160). -/
def lockRest (a : Nat) (h : Hall) : Hall :=
  let h := openColumn .lock a (makePending a h)
  match h.claim a with
  | some t => releaseClaim t a h
  | none => h

/-- A lock taken by what the column holds (R157). -/
def lockColumn (e : Env) (a : Nat) (h : Hall) : Hall :=
  if columnEmpty h a then post e .locked a (leaveFree .locked a h)
  else match (h.claim a).bind fun t => (h.carriage t).map fun c => (t, c.phase) with
    | some (t, phase) =>
      if phase.live then lockLive e t a h
      else if phase.early then lockEarly e t a h
      else refresh e t (lockRest a h)
    | none => lockRest a h

/-- LOCK ANTENNA (R157, R161). -/
def lockRun (a : Nat) (e : Env) (h : Hall) : Effect :=
  if Config.columns ≤ a then .unchanged .format
  else if !(e.antConfig a).present then .unchanged .range
  else if (h.antenna a).lock ≠ .free then .unchanged .done
  else .done (lockColumn e a)

/-- The transmitters that have a booking naming an antenna, as main or as alternate (R162, R163). -/
def usersOf (h : Hall) (a : Nat) : List Nat :=
  allRows.filter fun t => h.table.records.any fun b =>
    b.fields.transmitter == t && (b.fields.antenna == a || b.fields.alternate == some a)

/-- FREE ANTENNA (R162). -/
def freeRun (a : Nat) (e : Env) (h : Hall) : Effect :=
  if Config.columns ≤ a then .unchanged .format
  else if !(e.antConfig a).present then .unchanged .range
  else match (h.antenna a).lock with
    | .free => .unchanged .done
    | .pending => .unchanged .busy
    | .locked => .done fun h => scan e (usersOf h a) (h.setAntenna a fun x => { x with lock := .free })

/-- CLEAR SUSPECT (R163). -/
def clearSuspectRun (a : Nat) (e : Env) (h : Hall) : Effect :=
  if Config.columns ≤ a then .unchanged .format
  else if !(h.antenna a).suspect then .unchanged .done
  else .done fun h => scan e (usersOf h a) (h.setAntenna a fun x => { x with suspect := false })

/-- A STUCK crosspoint taken back as CLOSED: a locked column becomes or stays LOCK_PENDING, with a safety open (R91). -/
def clearClosed (r c : Nat) (h : Hall) : Hall :=
  let h := h.setXp r c .closed
  if (h.antenna c).lock = .free then h
  else askSafetyOpen .clearStuck r c (h.setAntenna c fun x => { x with lock := .pending })

/-- CLEAR STUCK (R91). -/
def clearStuckRun (x : RowCol) (e : Env) (h : Hall) : Effect :=
  if Config.rows ≤ x.row || Config.columns ≤ x.col then .unchanged .format
  else if h.xp x.row x.col ≠ .stuck then .unchanged .done
  else match e.reading x.row x.col with
    | .mid => .unchanged .blocked
    | .opened => .done fun h => h.setXp x.row x.col .opened
    | .closed =>
      if (closedCols h x.row).isEmpty && (closedRows h x.col).isEmpty then .done (clearClosed x.row x.col)
      else .unchanged .blocked

/-- LOCK ANTENNA (R157). -/
def execLockAntenna (tag : Byte) (body : Body Nat) (s : State) : Host.Outcome State Fault Refusal :=
  .next (frame .console 23 tag body (changing (matrixRequest (.lockAntenna tag body) lockRun)) s)

/-- FREE ANTENNA (R162). -/
def execFreeAntenna (tag : Byte) (body : Body Nat) (s : State) : Host.Outcome State Fault Refusal :=
  .next (frame .console 24 tag body (changing (matrixRequest (.freeAntenna tag body) freeRun)) s)

/-- CLEAR SUSPECT (R163). -/
def execClearSuspect (tag : Byte) (body : Body Nat) (s : State) : Host.Outcome State Fault Refusal :=
  .next (frame .console 25 tag body (changing (matrixRequest (.clearSuspect tag body) clearSuspectRun)) s)

/-- CLEAR STUCK (R91). -/
def execClearStuck (tag : Byte) (body : Body RowCol) (s : State) : Host.Outcome State Fault Refusal :=
  .next (frame .console 26 tag body (changing (matrixRequest (.clearStuck tag body) clearStuckRun)) s)

end Sys2Proof.Machine
end

