-- ==== Sys2Proof/Machine/Local.lean ====
section
/-! DEFINITION. The console's commands on a transmitter: TAKE LOCAL (R164), GIVE REMOTE (R166), LOCAL ROUTE, TUNE, RF ON, RF OFF (R165), CLEAR HELD (R110). -/

namespace Sys2Proof.Machine

/-- The tune a carriage asked for runs on for nobody (R95, R164). -/
def orphanTune (x : Tx) : Tx :=
  { x with tune := x.tune.map fun u => { u with requester := u.requester.filter (· != .carriage) } }

/-- TAKE LOCAL taken (R95, R164). A HELD transmitter changes no state and is not reported (R51, R95). -/
def takeLocalChange (e : Env) (t : Nat) (h : Hall) : Hall :=
  let h := h.setTx t fun x =>
    { orphanTune x with mode := .console, state := if x.state = .held then .held else .console }
  match h.carriage t with
  | none => if (h.tx t).state = .held then h else refresh e t (h.setMonitor t fun m => { m with recycle := none })
  | some c => if c.phase = .ending then endCarriage e t h else endWith e t .tookLocal h

/-- TAKE LOCAL (R164). -/
def takeLocalRun (t : Nat) (e : Env) (h : Hall) : Effect :=
  if Config.rows ≤ t then .unchanged .format
  else if !(e.txConfig t).present then .unchanged .range
  else if (h.tx t).mode = .console then .unchanged .done
  else .done (takeLocalChange e t)

/-- An occurrence that could be adopted, and how: record, day, column, its setting (R166). -/
structure Adoption where
  booking : Booking
  day     : Nat
  antenna : Nat
  setting : Setting
  deriving DecidableEq, Repr

/-- An occurrence is a candidate for adoption (R166). -/
def candidate (e : Env) (h : Hall) (t : Nat) (b : Booking) (d : Nat) : Bool :=
  b.state == .active && b.fields.transmitter == t && carriesDay h.calendar.entries b.fields d &&
  startOn b.fields d ≤ e.now && e.now < endOn b.fields d &&
  (b.lastRun.all (· < d) || (b.lastRun == some d && b.outcome == .tookLocal))

/-- The column and setting on which a radiating transmitter airs a booking as booked (R166). -/
def airedAsBooked (e : Env) (h : Hall) (t : Nat) (b : Offered) : Option (Nat × Setting) :=
  match rowRoute h t with
  | none => none
  | some a =>
    let wanted := if a = b.antenna then some b.setting
      else if b.alternate = some a then some (alternateSetting (e.antConfig a) b.setting) else none
    if (h.antenna a).change.isNone && wanted.isSome && (h.antenna a).setting = wanted && claimable e h t a &&
        (h.tx t).tuned = some b.frequency then wanted.map fun s => (a, s)
    else none

/-- Every occurrence that could be adopted, the one to take first: earliest start, then lowest number (R166). -/
def adoptions (e : Env) (h : Hall) (t : Nat) : List Adoption :=
  if e.mode = .running && (h.tx t).rfEnable && e.rfPresent t then
    sortBy (fun x y => startOn x.booking.fields x.day < startOn y.booking.fields y.day) <|
      h.table.records.flatMap fun b =>
        ((candidateDays e h b.fields.number).filter (candidate e h t b)).filterMap fun d =>
          (airedAsBooked e h t b.fields).map fun (a, s) => { booking := b, day := d, antenna := a, setting := s }
  else []

/-- The cues of an adopted occurrence: its first cue removed, its STOP in the list (R166). A STOP that stands there keeps its due time and its reported field (the model's choice, logs 71 and 73). -/
def adoptCues (t : Nat) (b : Offered) (day : Nat) (said : Said) (cues : List Cue) : List Cue :=
  let cues := cues.filter fun c => !(c.isOf b.number day && c.isFirst)
  if cues.any fun c => c.isOf b.number day && c.kind == .stop then cues
  else
    sortBy Cue.before (cues ++
      [{ kind := .stop, due := endOn b day, transmitter := t, booking := b.number, day := day, lead := 0, lateness := 0
         clamped := false, carry := false, said := said }])

/-- An occurrence adopted, directly ON_AIR (R166), its late seconds held at the greatest value of Table 24 (log 56). -/
def adopt (e : Env) (t : Nat) (a : Adoption) (h : Hall) : Hall :=
  let b := a.booking.fields
  let said := saidOf h b.number a.day
  let c := newCarriage e t b { booking := b.number, day := a.day, lead := 0, said := said } a.antenna a.setting
  let c := { c with phase := .onAir, aired := true, lateSeconds := min (e.now - c.start) Config.largestLateness
                    outcome := if c.substituted then .substituted else .late, said := { said with late := true } }
  let h := (grantClaim e t a.antenna h).setCarriage t (some c)
  let h := writeOutcome b.number c.outcome (setLastRun b.number a.day h)
  let h := if said.late then h else post e .late b.number h
  let h := h.mapLookahead fun l =>
    { l with cues := adoptCues t b a.day said l.cues
             readmit := l.readmit.filter fun o => !(o.booking == b.number && o.day == a.day) }
  let h := if (h.tx t).power = some b.power then h else setPower e t b.power h
  refresh e t (carriageOpened t h)

/-- GIVE REMOTE of a transmitter in state LOCAL: R97 tested, then an occurrence adopted or RF taken down (R166). -/
def giveUp (e : Env) (t : Nat) (h : Hall) : Hall :=
  let h := enforceOne e t (h.setTx t fun x => { x with state := .idle })
  match adoptions e h t with
  | a :: _ => adopt e t a h
  | [] => refresh e t (if rowLive e h t then rfOff e t h else h)

/-- GIVE REMOTE taken (R166). -/
def giveRemoteChange (e : Env) (t : Nat) (h : Hall) : Hall :=
  let h := h.setTx t fun x => { x with mode := .remote }
  let h := withdrawRoute t h
  if (h.tx t).state = .console then giveUp e t h else h

/-- GIVE REMOTE (R166). -/
def giveRemoteRun (t : Nat) (e : Env) (h : Hall) : Effect :=
  if Config.rows ≤ t then .unchanged .format
  else if !(e.txConfig t).present then .unchanged .range
  else if (h.tx t).mode = .remote then .unchanged .done
  else .done (giveRemoteChange e t)

/-- LOCAL ROUTE (R80, R165). -/
def localRouteRun (r : LocalRouteArgs) (e : Env) (h : Hall) : Effect :=
  if Config.rows ≤ r.transmitter || r.column.any (Config.columns ≤ ·) then .unchanged .format
  else if (h.tx r.transmitter).state ≠ .console then .unchanged .mode
  else match localRouteRefusal e h r.transmitter r.column with
    | some code => .unchanged code
    | none => .done (askLocalRoute r.transmitter r.column)

/-- LOCAL TUNE (R104, R165). -/
def localTuneRun (r : LocalArgs) (e : Env) (h : Hall) : Effect :=
  if Config.rows ≤ r.transmitter || !isFrequency r.value then .unchanged .format
  else if (h.tx r.transmitter).state ≠ .console then .unchanged .mode
  else match tuneRefusal e h r.transmitter r.value with
    | some code => .unchanged code
    | none => .done (takeTune e r.transmitter r.value .console)

/-- LOCAL RF ON (R98, R165); POWER is tested before MODE (log 35). -/
def localRfOnRun (r : LocalArgs) (e : Env) (h : Hall) : Effect :=
  if Config.rows ≤ r.transmitter || !isPower r.value then .unchanged .format
  else if (e.txConfig r.transmitter).rated < r.value then .unchanged .power
  else if (h.tx r.transmitter).state ≠ .console || e.mode = .configuring then .unchanged .mode
  else if !mayRadiate e h r.transmitter r.value then .unchanged .interlock
  else .done (rfOn e r.transmitter r.value .console)

/-- LOCAL RF OFF (R100, R165). -/
def localRfOffRun (t : Nat) (e : Env) (h : Hall) : Effect :=
  if Config.rows ≤ t then .unchanged .format
  else if (h.tx t).state ≠ .console then .unchanged .mode
  else .done (rfOff e t)

/-- CLEAR HELD taken (R110). -/
def clearHeldChange (e : Env) (t : Nat) (h : Hall) : Hall :=
  let h := h.setTx t fun x => { x with reason := none, state := if x.mode = .console then .console else .idle }
  refresh e t (h.setMonitor t fun m => { m with tripCount := 0 })

/-- CLEAR HELD (R110). -/
def clearHeldRun (t : Nat) (e : Env) (h : Hall) : Effect :=
  if Config.rows ≤ t then .unchanged .format
  else if !(e.txConfig t).present then .unchanged .range
  else if (h.tx t).state ≠ .held then .unchanged .done
  else if (e.indications t).fault || e.rfPresent t then .unchanged .busy
  else .done (clearHeldChange e t)

/-- TAKE LOCAL (R164). -/
def execTakeLocal (tag : Byte) (body : Body Nat) (s : State) : Host.Outcome State Fault Refusal :=
  .next (frame .console 27 tag body (changing takeLocalRun) s)

/-- GIVE REMOTE (R166). -/
def execGiveRemote (tag : Byte) (body : Body Nat) (s : State) : Host.Outcome State Fault Refusal :=
  .next (frame .console 28 tag body (changing (matrixRequest (.giveRemote tag body) giveRemoteRun)) s)

/-- LOCAL ROUTE (R165). -/
def execLocalRoute (tag : Byte) (body : Body LocalRouteArgs) (s : State) : Host.Outcome State Fault Refusal :=
  .next (frame .console 29 tag body (changing (matrixRequest (.localRoute tag body) localRouteRun)) s)

/-- LOCAL TUNE (R165). -/
def execLocalTune (tag : Byte) (body : Body LocalArgs) (s : State) : Host.Outcome State Fault Refusal :=
  .next (frame .console 30 tag body (changing localTuneRun) s)

/-- LOCAL RF ON (R165). -/
def execLocalRfOn (tag : Byte) (body : Body LocalArgs) (s : State) : Host.Outcome State Fault Refusal :=
  .next (frame .console 31 tag body (changing (matrixRequest (.localRfOn tag body) localRfOnRun)) s)

/-- LOCAL RF OFF (R165). -/
def execLocalRfOff (tag : Byte) (body : Body Nat) (s : State) : Host.Outcome State Fault Refusal :=
  .next (frame .console 32 tag body (changing localRfOffRun) s)

/-- CLEAR HELD (R110). -/
def execClearHeld (tag : Byte) (body : Body Nat) (s : State) : Host.Outcome State Fault Refusal :=
  .next (frame .console 33 tag body (changing clearHeldRun) s)

end Sys2Proof.Machine
end

