-- ==== Sys2Proof/Machine/HallLines.lean ====
section
/-! DEFINITION. Events on the hall lines: contact reports, the survey and its end (R66, R68, R73, R89, R90, R180), setting completions (R85, R86), status reports and tunes (R96, R105), RF watches (R99, R101), detector conversions and the monitor's timers (R134, R140, R143). -/

namespace Sys2Proof.Machine

/-! ## The end of the survey (R89, R90, R179, R180) -/

/-- A crosspoint's survey report (R89); one that reads MID is posted STUCK as it is taken. -/
def surveyReport (e : Env) (r c : Nat) (reading : Reading) (h : Hall) : Hall :=
  let h := match reading with
    | .opened => h.setXp r c .opened
    | .closed => h.setXp r c .closed
    | .mid => setStuck e r c h
  h.mapMatrix fun m => { m with survey := m.survey.map fun s =>
    { s with unreported := s.unreported.filter fun x => !(x.row == r && x.col == c) } }

/-- The CLOSED crosspoints in a row or column that holds more than one, in ascending number (R90). -/
def duplicates (h : Hall) : List RowCol :=
  allCrosspoints.filter fun x =>
    h.xp x.row x.col == .closed && (1 < (closedCols h x.row).length || 1 < (closedRows h x.col).length)

/-- One column's retained lock state taken after the survey (R90): an empty LOCK_PENDING column becomes LOCKED at once. -/
def retakeLock (e : Env) (a : Nat) (h : Hall) : Hall :=
  if (h.antenna a).lock = .free then h
  else if (closedRows h a).isEmpty && !colBlocked h a then completeLock e a h
  else openColumn .startup a (h.setAntenna a fun x => { x with lock := .pending })

/-- The matrix reconstructed (R90): duplicate closures in ascending crosspoint number, then the lock states by ascending column, rows ascending in each (the columns' order is the model's choice, log 44). -/
def reconstruct (e : Env) (h : Hall) : Hall :=
  let h := (duplicates h).foldl (fun h x => askSafetyOpen .startup x.row x.col h) h
  forEach allCols (retakeLock e) h

/-- A request held during the survey, taken when it has ended (R89). -/
def takeHeld (i : Instr) (e : Env) (h : Hall) : Effect :=
  match i with
  | .lockAntenna _ (.fields a) => lockRun a e h
  | .freeAntenna _ (.fields a) => freeRun a e h
  | .clearSuspect _ (.fields a) => clearSuspectRun a e h
  | .clearStuck _ (.fields x) => clearStuckRun x e h
  | .giveRemote _ (.fields t) => giveRemoteRun t e h
  | .localRoute _ (.fields r) => localRouteRun r e h
  | .localRfOn _ (.fields r) => localRfOnRun r e h
  | _ => { answer := none, change := none }

/-- The requests held, in arrival order, with the answer of the last. -/
def takeAllHeld (e : Env) : List Instr → Hall → Option Answer → Hall × Option Answer
  | [], h, a => (h, a)
  | i :: rest, h, a =>
    let v := takeHeld i e h
    takeAllHeld e rest (match v.change with | some f => f h | none => h) (v.answer.or a)

/-- One booking in the restart's resume scan (R180). -/
def restartOne (e : Env) (b : Booking) (h : Hall) : Hall :=
  match b.lastRun with
  | none => h
  | some d =>
    if b.state ≠ .active ∨ endOn b.fields d ≤ e.now then h
    else if b.outcome = .missed ∨ b.outcome = .tookLocal ∨ b.outcome = .cut then h
    else
      let h := writeOutcome b.fields.number .cut h
      let t := b.fields.transmitter
      if (e.txConfig t).present && (h.tx t).state != .held && (h.tx t).mode == .remote then
        readmit e b.fields.number d h
      else h

/-- The restart's resume scan (R180), the bookings by ascending number (log 60). -/
def restartScan (e : Env) (h : Hall) : Hall := h.table.records.foldl (fun h b => restartOne e b h) h

/-- The survey ends: unreported crosspoints STUCK in ascending crosspoint number (the model's choice, log 43), reconstruction, the requests held, then what the hall mode asks for (R89, R90, R179 step 7; the last two in this order: the model's choice, log 69). -/
def endSurvey (e : Env) (s : Survey) (h : Hall) : Hall × Option Answer :=
  let h := s.unreported.foldl (fun h x => setStuck e x.row x.col h) h
  let h := reconstruct e (h.mapMatrix fun m => { m with survey := none })
  let (h, answer) := takeAllHeld e s.held h none
  let h := if e.mode = .configuring then h else rescan e h
  (if s.warm && e.mode = .running then restartScan e h else h, answer)

/-- The console's request that waited for the survey is answered (R185, R89). -/
def State.deliver (s : State) (answer : Option Answer) : State :=
  match answer with
  | none => s
  | some a =>
    { s with links := s.links.setSide .console fun l =>
        { l with outstanding := l.outstanding.map fun o => { o with answer := some (o.answer.getD a) } } }

/-- The survey ends in this event, its hall already changed by the event's own report. -/
def surveyOver (e : Env) (sv : Survey) (change : Hall → Hall) (s : State) : State :=
  State.deliver (event (fun _ => e) (fun e h => (endSurvey e sv (change h)).1) s) (endSurvey e sv (change s.hall)).2

/-- An environment with a crosspoint's new reading (R66). -/
def Env.withReading (r c : Nat) (reading : Reading) (e : Env) : Env :=
  { e with inputs := { e.inputs with readings := update e.inputs.readings r fun row => write row c reading } }

/-- An environment with a transmitter's new indications (R96). -/
def Env.withIndications (t : Nat) (i : Indications) (e : Env) : Env :=
  { e with inputs := { e.inputs with indications := write e.inputs.indications t i } }

/-- A contact report of the matrix while the part runs (R66, R68, R89). -/
def contact (r c : Nat) (reading : Reading) (s : State) : State :=
  let e := s.env.withReading r c reading
  match s.hall.matrix.survey with
  | none => event (fun _ => e) (takeContact · r c reading) s
  | some sv =>
    if sv.unreported.any fun x => x.row == r && x.col == c then
      let left := sv.unreported.filter fun x => !(x.row == r && x.col == c)
      if left.isEmpty then surveyOver e { sv with unreported := [] } (surveyReport e r c reading) s
      else event (fun _ => e) (surveyReport · r c reading) s
    else event (fun _ => e) (takeContact · r c reading) s

/-- The limit of a moving crosspoint's timer (R73). -/
def moveLimit (r c : Nat) (h : Hall) : Option Nat :=
  (List.range Config.driveSlots).findSome? fun i =>
    (read h.matrix.slots i).bind fun x => if x.move.isOf r c then some x.limit else none

/-- CONTACT_REPORT (R66, R68, R69, R89). -/
def execContactReport (row col : Nat) (reading : Reading) (s : State) : Host.Outcome State Fault Refusal :=
  .next (if row < Config.rows && col < Config.columns && s.power == .running then contact row col reading s else s)

/-- MOVE_TIMEOUT (R73). -/
def execMoveTimeout (row col : Nat) (s : State) : Host.Outcome State Fault Refusal :=
  .next (expiry (moveLimit row col) (fun e h => moveExpired e row col h) s)

/-- SURVEY_LIMIT (R89). -/
def execSurveyLimit (s : State) : Host.Outcome State Fault Refusal :=
  match s.hall.matrix.survey with
  | none => .next s
  | some sv => .next (if s.power = .running then surveyOver (s.env.reach sv.limit) sv id s else s)

/-- SETTING_COMPLETION_REPORT (R85, R86). -/
def execSettingCompletionReport (antenna : Nat) (setting : Setting) (s : State) : Host.Outcome State Fault Refusal :=
  .next (event id (fun e h => settingReported e antenna setting h) s)

/-- SETTING_TIMEOUT (R85). -/
def execSettingTimeout (antenna : Nat) (s : State) : Host.Outcome State Fault Refusal :=
  .next (expiry (fun h => (h.antenna antenna).change.map (·.limit)) (fun e h => settingExpired e antenna h) s)

/-- STATUS_REPORT (R96, R99 to R102, R106, R108). -/
def execStatusReport (t : Nat) (i : Indications) (s : State) : Host.Outcome State Fault Refusal :=
  let old := s.env.indications t
  .next (event (Env.withIndications t i)
    (fun e h => if (e.txConfig t).present then takeIndications e t old h else h) s)

/-- TUNE_COMPLETE (R105); discarded for an absent transmitter (R96). -/
def execTuneComplete (t frequency : Nat) (s : State) : Host.Outcome State Fault Refusal :=
  .next (event id (fun e h => if (e.txConfig t).present then tuneReported e t frequency h else h) s)

/-- TUNE_TIMEOUT (R105). -/
def execTuneTimeout (t : Nat) (s : State) : Host.Outcome State Fault Refusal :=
  .next (expiry (fun h => (h.tx t).tune.bind (·.ends)) (fun e h => tuneExpired e t h) s)

/-- RF_UP_TIMEOUT (R99). -/
def execRfUpTimeout (t : Nat) (s : State) : Host.Outcome State Fault Refusal :=
  .next (expiry (fun h => (h.tx t).rfUp) (fun e h => rfUpExpired e t h) s)

/-- RF_DOWN_TIMEOUT (R101). -/
def execRfDownTimeout (t : Nat) (s : State) : Host.Outcome State Fault Refusal :=
  .next (expiry (fun h => (h.tx t).rfDown) (fun e h => rfDownExpired e t h) s)

/-- DETECTOR_CONVERSION (R134). -/
def execDetectorConversion (t : Nat) (vf vr : BitVec 10) (s : State) : Host.Outcome State Fault Refusal :=
  .next (event (fun e => { e with inputs := { e.inputs with pairs := write e.inputs.pairs t (vf, vr) } })
    (fun e h => convert e t vf.toNat vr.toNat h) s)

/-- RECYCLE_TIMER_EXPIRY (R140). -/
def execRecycleTimerExpiry (t : Nat) (s : State) : Host.Outcome State Fault Refusal :=
  .next (expiry (fun h => (h.monitor t).recycle) (fun e h => recycleExpired e t h) s)

/-- CLEAN_RUN_EXPIRY (R143). -/
def execCleanRunExpiry (t : Nat) (s : State) : Host.Outcome State Fault Refusal :=
  .next (expiry (fun h => (h.monitor t).cleanRun) (fun _ h => cleanRunExpired t h) s)

end Sys2Proof.Machine
end

