-- ==== Sys2Proof/Machine/Reads.lean ====
section
/-! DEFINITION. The commands that show a block's record: READ CUES (R55), READ TRANSMITTER (R111), READ ANTENNA (R88), READ ROUTES (R92). -/

namespace Sys2Proof.Machine

/-- READ CUES (R55). -/
def readCuesRun (position : Nat) (e : Env) (h : Hall) : Answer :=
  if Config.cueCapacity ≤ position then Answer.code .format
  else
    { result := .done
      body := .cues h.lookahead.cues.length h.lookahead.short e.config.hall.horizon e.clock.day
        ((h.lookahead.cues.drop position).take Config.cuesPerRead) }

/-- The seconds left to the limit of an outstanding tune, absent when there is none (R111, R192); how a part of a second is rounded the book does not say, the free value drawn decides it (log 16). -/
def secondsLeft (e : Env) (x : Tx) (free : BitVec 16) : Option Nat :=
  x.tune.map fun u =>
    let left := match u.ends with
      | some t => t - e.timebase
      | none => u.limit
    left / 1000 + if left % 1000 = 0 then 0 else free.toNat % 2

/-- READ TRANSMITTER (R111). -/
def readTransmitterRun (free : BitVec 16) (t : Nat) (e : Env) (h : Hall) : Answer :=
  if Config.rows ≤ t then Answer.code .format
  else
    { result := .done
      body := .transmitter t (e.txConfig t) (h.tx t) (e.indications t) (secondsLeft e (h.tx t) free)
        ((h.carriage t).map fun c => (c.booking, c.phase)) (h.monitor t).tripCount (h.monitor t).displayed }

/-- The displayed azimuth of an antenna (R88). -/
def azimuth (e : Env) (h : Hall) (a : Nat) : Option Nat :=
  if a = Config.testLoad then none
  else (h.antenna a).setting.map fun s =>
    (((e.antConfig a).bearing : Int) + 5 * s.slew + (if s.dir = .reverse then 180 else 0)).emod 360 |>.toNat

/-- READ ANTENNA (R88). -/
def readAntennaRun (a : Nat) (e : Env) (h : Hall) : Answer :=
  if Config.columns ≤ a then Answer.code .format
  else
    { result := .done
      body := .antenna a (e.antConfig a) (h.antenna a) (h.claim a) (colRoute h a) (azimuth e h a) }

/-- One row as READ ROUTES gives it (R92). -/
def rowView (h : Hall) (t : Nat) : RowView where
  route := rowRoute h t
  blocked := rowBlocked h t
  moving := (movingCols h t).head?

/-- One column as READ ROUTES gives it (R92). -/
def colView (h : Hall) (a : Nat) : ColView where
  route := colRoute h a
  blocked := colBlocked h a
  claim := h.claim a

/-- The state of a settled crosspoint agrees with a reading (R92). -/
def agrees : XpState → Reading → Bool
  | .opened, .opened | .closed, .closed => true
  | _, _ => false

/-- The crosspoints READ ROUTES lists, from a number onward: not OPEN, or with a reading that differs (R92). -/
def listedFrom (e : Env) (h : Hall) (first : Nat) : List XpView :=
  (allCrosspoints.filter fun x =>
    first ≤ x.row * Config.columns + x.col &&
      (h.xp x.row x.col != .opened || !agrees (h.xp x.row x.col) (e.reading x.row x.col))).map fun x =>
    { number := x.row * Config.columns + x.col, state := h.xp x.row x.col, reading := e.reading x.row x.col }

/-- How many crosspoints fit a READ ROUTES response beside its queue: command code, result code, tag, 87 bytes, the moves, and 2 marks, within 250 (R193, Table 51). -/
def crosspointRoom (queue : Nat) : Nat := (Config.longestLength - (3 + 87 + 3 * queue + 2)) / 3

/-- READ ROUTES (R92, Table 51). -/
def readRoutesRun (first : Nat) (e : Env) (h : Hall) : Answer :=
  if Config.rows * Config.columns ≤ first then Answer.code .format
  else
    let listed := listedFrom e h first
    let room := crosspointRoom h.matrix.queue.length
    { result := .done
      body := .routes (allRows.map (rowView h)) (allCols.map (colView h))
        ((List.range Config.driveSlots).map fun i => (read h.matrix.slots i).map (·.move)) h.matrix.queue
        (room < listed.length) (listed.take room) }

/-- READ CUES (R55). -/
def execReadCues (tag : Byte) (body : Body Nat) (s : State) : Host.Outcome State Fault Refusal :=
  .next (frame .planning 11 tag body (reading readCuesRun) s)

/-- READ TRANSMITTER (R111); it draws one free value (log 16). -/
def execReadTransmitter (link : Link) (tag : Byte) (body : Body Nat) (s : State) : Host.Outcome State Fault Refusal :=
  .next (frame link 12 tag body
    (fun t s => ({ s with links := { s.links with draws := s.links.draws + 1 } },
      some (readTransmitterRun (Config.freeSeconds s.links.draws) t s.env s.hall))) s)

/-- READ ANTENNA (R88). -/
def execReadAntenna (link : Link) (tag : Byte) (body : Body Nat) (s : State) : Host.Outcome State Fault Refusal :=
  .next (frame link 13 tag body (reading readAntennaRun) s)

/-- READ ROUTES (R92). -/
def execReadRoutes (link : Link) (tag : Byte) (body : Body Nat) (s : State) : Host.Outcome State Fault Refusal :=
  .next (frame link 14 tag body (reading readRoutesRun) s)

end Sys2Proof.Machine
end

