-- ==== Sys2Proof/Machine/Startup.lean ====
section
/-! DEFINITION. Start-up: cold start (R178), warm restart (R179), the restart input and the main supply (R176, R177). -/

namespace Sys2Proof.Machine

/-- The clock after a warm restart: the counter's value and the status of R42. -/
def Clock.warm (c : Clock) (counted timebase : Nat) : Clock :=
  { c.setTo (c.value + counted) with
    status := if c.everSet then .holdover else .unset
    setting := none
    lastPulse := 0
    lastAdvance := timebase
    watch := if c.everSet then some (timebase + Config.pulseLimit) else none }

/-- The environment of a warm restart: the retention domain kept, RF present on for every present transmitter until it reports (R94, R133, R176). -/
def Env.warm (e : Env) (counted : Nat) : Env :=
  { e with
    clock := e.clock.warm counted e.timebase
    inputs :=
      { readings := Vector.replicate _ (Vector.replicate _ .mid)
        indications := allRows.foldl (fun v t =>
          write v t { rfPresent := (e.txConfig t).present, fault := false, ready := false })
          (Vector.replicate _ default)
        pairs := Vector.replicate _ (0, 0) } }

/-- The live part of a present transmitter at a warm restart (R94). -/
def Tx.warm (x : Tx) : Tx :=
  { Tx.start with
    mode := x.mode
    state := if x.state = .held then .held else if x.mode = .console then .console else .idle
    reason := if x.state = .held then x.reason else none }

/-- Status request and RF OFF with its watch, to every present transmitter (R94, R179 step 2). -/
def restartTxs (e : Env) (h : Hall) : Hall :=
  let h := forEach allRows (fun t h => sendTx e t (.statusRequest t) h) h
  forEach allRows (rfOff e) h

/-- The WITHDRAWING records removed, then the retirement and removal tests, and the arming set (R4, R5, R24, R179 step 5). -/
def restartTable (e : Env) (h : Hall) : Hall :=
  let armed := fun (h : Hall) =>
    { h with table := { h.table with
      armed := e.config.hall.nearlyFull < Config.tableCapacity - h.table.records.length } }
  let h := removeBookings e (h.table.records.filter (·.state == .withdrawing)) h
  if e.unset then armed h
  else
    let gone := h.table.records.filter fun b => seasonEnded e h b.fields.season
    let h := if gone.isEmpty then h else removeBookings e gone (post e .retired gone.length h)
    armed (calendarTest e h)

/-- The hall after steps 1 to 6 of a warm restart (R179); e is the environment of the restart. -/
def Hall.warm (e : Env) (h : Hall) : Hall :=
  let antennas := allCols.foldl (fun v a => write v a (Antenna.start a (h.antenna a).lock (h.antenna a).suspect))
    Antenna.coldAll
  let start : Hall :=
    { Hall.cold e.timebase with
      table := h.table
      calendar := h.calendar
      matrix := Matrix.start antennas e.timebase true
      txs := allRows.foldl (fun v t => if (e.txConfig t).present then write v t (h.tx t).warm else v)
        (Vector.replicate _ Tx.start)
      attention := { planning := emptySummary, console := emptySummary, alarm := 0 }
      orders := [] }
  post e .restarted 1 (restartTable e (findLive e (send .survey (restartTxs e start))))

/-- A cold start (R178). -/
def coldStart (address : Nat) (s : State) : State :=
  { s with
    env := Env.cold s.env.timebase
    power := .running
    links := { Links.start address s.links.draws with addressLines := address }
    hall := Hall.cold s.env.timebase }

/-- A warm restart (R179), its matrix pass left to what follows the survey. -/
def warmStart (i : StartInputs) (s : State) : State :=
  { s with
    env := s.env.warm i.counted
    power := .running
    links := { Links.start i.address s.links.draws with addressLines := i.address }
    hall := (Hall.warm (s.env.warm i.counted) s.hall) }

/-- A start-up: warm when the retention domain passes its test, else cold (R176, R177). -/
def startUp (i : StartInputs) (s : State) : State :=
  if i.intact then warmStart i s else coldStart i.address s

/-- RF enable is withdrawn on all twelve lines (R177). -/
def withdrawAll (h : Hall) : Hall := forEach allRows (fun t h => h.setTx t fun x => { x with rfEnable := false }) h

/-- POWER_UP: the main supply rises (R177), the restart input taken as released (the model's choice, log 68). -/
def execPowerUp (inputs : StartInputs) (s : State) : Host.Outcome State Fault Refusal :=
  .next (if s.power = .absent then startUp inputs s else s)

/-- RESTART_ASSERTED: the part is halted (R177). No level of the input is kept: asserted without supply it leaves nothing behind (the model's choice, log 68). -/
def execRestartAsserted (s : State) : Host.Outcome State Fault Refusal :=
  .next (if s.power = .running then
    { s with power := .halted s.env.timebase, hall := withdrawAll s.hall } else s)

/-- RESTART_RELEASED before 5 s (R177); after a cold start the release has no further effect. -/
def execRestartReleased (inputs : StartInputs) (s : State) : Host.Outcome State Fault Refusal :=
  .next (match s.power with
    | .halted _ => startUp inputs s
    | _ => s)

/-- RESTART_HELD_5S: a cold start at that moment (R177). -/
def execRestartHeld5s (address : Nat) (s : State) : Host.Outcome State Fault Refusal :=
  .next (match s.power with
    | .halted since => coldStart address { s with env := s.env.reach (since + Config.coldHold) }
    | _ => s)

/-- MAIN_SUPPLY_LOSS: only the retention domain and the clock counter go on (R176, R177; log 20). -/
def execMainSupplyLoss (s : State) : Host.Outcome State Fault Refusal :=
  .next (if s.power = .absent then s else { s with power := .absent, hall := withdrawAll s.hall })

end Sys2Proof.Machine
end

