-- ==== Sys2Proof/Machine/Dispatch.lean ====
section
/-! DEFINITION. One arm per command: its meaning on everything but the queue. -/

namespace Sys2Proof.Machine

/-- The meaning of each command (spec/opcode_table.json, one row each). -/
def exec (i : Instr) (s : State) : Host.Outcome State Fault Refusal :=
  match i with
  | .enter tag body => Sys2Proof.Machine.execEnter tag body s
  | .loadBlock tag body => Sys2Proof.Machine.execLoadBlock tag body s
  | .amend tag body => Sys2Proof.Machine.execAmend tag body s
  | .withdraw tag body => Sys2Proof.Machine.execWithdraw tag body s
  | .fetch link tag body => Sys2Proof.Machine.execFetch link tag body s
  | .list tag body => Sys2Proof.Machine.execList tag body s
  | .calendarAdd tag body => Sys2Proof.Machine.execCalendarAdd tag body s
  | .calendarRemove tag body => Sys2Proof.Machine.execCalendarRemove tag body s
  | .calendarRead tag body => Sys2Proof.Machine.execCalendarRead tag body s
  | .setClock dest body => Sys2Proof.Machine.execSetClock dest body s
  | .readCues tag body => Sys2Proof.Machine.execReadCues tag body s
  | .readTransmitter link tag body => Sys2Proof.Machine.execReadTransmitter link tag body s
  | .readAntenna link tag body => Sys2Proof.Machine.execReadAntenna link tag body s
  | .readRoutes link tag body => Sys2Proof.Machine.execReadRoutes link tag body s
  | .configureHall tag body => Sys2Proof.Machine.execConfigureHall tag body s
  | .commission tag body => Sys2Proof.Machine.execCommission tag body s
  | .reconfigure tag body => Sys2Proof.Machine.execReconfigure tag body s
  | .configureTransmitter tag body => Sys2Proof.Machine.execConfigureTransmitter tag body s
  | .configureAntenna tag body => Sys2Proof.Machine.execConfigureAntenna tag body s
  | .setAlarmMask tag body => Sys2Proof.Machine.execSetAlarmMask tag body s
  | .poll link tag body => Sys2Proof.Machine.execPoll link tag body s
  | .setLinkRate link tag body => Sys2Proof.Machine.execSetLinkRate link tag body s
  | .lockAntenna tag body => Sys2Proof.Machine.execLockAntenna tag body s
  | .freeAntenna tag body => Sys2Proof.Machine.execFreeAntenna tag body s
  | .clearSuspect tag body => Sys2Proof.Machine.execClearSuspect tag body s
  | .clearStuck tag body => Sys2Proof.Machine.execClearStuck tag body s
  | .takeLocal tag body => Sys2Proof.Machine.execTakeLocal tag body s
  | .giveRemote tag body => Sys2Proof.Machine.execGiveRemote tag body s
  | .localRoute tag body => Sys2Proof.Machine.execLocalRoute tag body s
  | .localTune tag body => Sys2Proof.Machine.execLocalTune tag body s
  | .localRfOn tag body => Sys2Proof.Machine.execLocalRfOn tag body s
  | .localRfOff tag body => Sys2Proof.Machine.execLocalRfOff tag body s
  | .clearHeld tag body => Sys2Proof.Machine.execClearHeld tag body s
  | .takeAmendment tag body => Sys2Proof.Machine.execTakeAmendment tag body s
  | .dropAmendment tag body => Sys2Proof.Machine.execDropAmendment tag body s
  | .hallStop tag body => Sys2Proof.Machine.execHallStop tag body s
  | .hallResume tag body => Sys2Proof.Machine.execHallResume tag body s
  | .ackAlarm tag body => Sys2Proof.Machine.execAckAlarm tag body s
  | .unknownCommand link code tag => Sys2Proof.Machine.execUnknownCommand link code tag s
  | .characterGapTimeout link => Sys2Proof.Machine.execCharacterGapTimeout link s
  | .linkBreak link => Sys2Proof.Machine.execLinkBreak link s
  | .responseSent link => Sys2Proof.Machine.execResponseSent link s
  | .secondPulse time => Sys2Proof.Machine.execSecondPulse time s
  | .pulseWatchExpiry => Sys2Proof.Machine.execPulseWatchExpiry s
  | .internalAdvance => Sys2Proof.Machine.execInternalAdvance s
  | .contactReport row col reading => Sys2Proof.Machine.execContactReport row col reading s
  | .moveTimeout row col => Sys2Proof.Machine.execMoveTimeout row col s
  | .surveyLimit => Sys2Proof.Machine.execSurveyLimit s
  | .settingCompletionReport antenna setting => Sys2Proof.Machine.execSettingCompletionReport antenna setting s
  | .settingTimeout antenna => Sys2Proof.Machine.execSettingTimeout antenna s
  | .statusReport transmitter indications => Sys2Proof.Machine.execStatusReport transmitter indications s
  | .tuneComplete transmitter frequency => Sys2Proof.Machine.execTuneComplete transmitter frequency s
  | .tuneTimeout transmitter => Sys2Proof.Machine.execTuneTimeout transmitter s
  | .rfUpTimeout transmitter => Sys2Proof.Machine.execRfUpTimeout transmitter s
  | .rfDownTimeout transmitter => Sys2Proof.Machine.execRfDownTimeout transmitter s
  | .detectorConversion transmitter vf vr => Sys2Proof.Machine.execDetectorConversion transmitter vf vr s
  | .recycleTimerExpiry transmitter => Sys2Proof.Machine.execRecycleTimerExpiry transmitter s
  | .cleanRunExpiry transmitter => Sys2Proof.Machine.execCleanRunExpiry transmitter s
  | .powerUp inputs => Sys2Proof.Machine.execPowerUp inputs s
  | .restartAsserted => Sys2Proof.Machine.execRestartAsserted s
  | .restartReleased inputs => Sys2Proof.Machine.execRestartReleased inputs s
  | .restartHeld5s address => Sys2Proof.Machine.execRestartHeld5s address s
  | .frameDiscard link cause => Sys2Proof.Machine.execFrameDiscard link cause s
  | .mainSupplyLoss => Sys2Proof.Machine.execMainSupplyLoss s

end Sys2Proof.Machine
end

