-- ==== Sys2Proof/Machine/Timers.lean ====
section
/-! DEFINITION. The internal timebase on an empty queue: one millisecond, and the expiry commands of the timers that have reached their limits (R26, R177; log 2, log 24). -/

namespace Sys2Proof.Machine

/-- A timer's expiry, when it runs and its limit is reached. -/
def whenDue (now : Nat) (limit : Option Nat) (i : Instr) : List Instr :=
  if limit.any (· ≤ now) then [i] else []

/-- The limit of the next internal advance; none in LOCKED (R27, R28, R30). -/
def Clock.nextAdvance (c : Clock) : Option Nat := if c.status = .locked then none else some (c.lastAdvance + 1000)

/-- The timers of one transmitter (R99, R101, R105, R140, R143). -/
def txExpiries (now : Nat) (h : Hall) (t : Nat) : List Instr :=
  whenDue now ((h.tx t).tune.bind (·.ends)) (.tuneTimeout t) ++
  whenDue now (h.tx t).rfUp (.rfUpTimeout t) ++
  whenDue now (h.tx t).rfDown (.rfDownTimeout t) ++
  whenDue now (h.monitor t).recycle (.recycleTimerExpiry t) ++
  whenDue now (h.monitor t).cleanRun (.cleanRunExpiry t)

/-- The expiries that are due while the part runs, in the order of log 24. -/
def expiries (e : Env) (h : Hall) : List Instr :=
  whenDue e.timebase e.clock.watch .pulseWatchExpiry ++
  whenDue e.timebase e.clock.nextAdvance .internalAdvance ++
  whenDue e.timebase (h.matrix.survey.map (·.limit)) .surveyLimit ++
  ((List.range Config.driveSlots).filterMap fun i => (read h.matrix.slots i)).flatMap (fun x =>
    whenDue e.timebase (some x.limit) (.moveTimeout x.move.row x.move.col)) ++
  (allCols.flatMap fun a => whenDue e.timebase ((h.antenna a).change.map (·.limit)) (.settingTimeout a)) ++
  allRows.flatMap (txExpiries e.timebase h)

/-- A millisecond of the internal timebase (log 2); without main supply nothing goes on but the clock counter (R176). -/
def idle (s : State) : State :=
  let e := { s.env with timebase := s.env.timebase + 1 }
  match s.power with
  | .running => { s with env := e, pending := expiries e s.hall }
  | .halted since =>
    { s with env := e
             pending := whenDue e.timebase (some (since + Config.coldHold)) (.restartHeld5s s.links.addressLines) }
  | .absent => s

end Sys2Proof.Machine
end

