-- ==== Sys2Proof/Safety.lean ====
section
/-! DEFINITION. What the statements about this model are written with: the frame a command came in, a hall in which nothing is left to do, and the invariants: RF enable (R97), the table and the calendar (R4, R36), the ranges of the clock and the link unit (R25, R181). -/

namespace Sys2Proof.Machine

/-- Link, command code and tag of a command that came in a frame of its own (Table 40, R192). -/
def frameOf : Instr → Option (Link × Nat × Byte)
  | .enter tag _ => some (.planning, 1, tag)
  | .loadBlock tag _ => some (.planning, 2, tag)
  | .amend tag _ => some (.planning, 3, tag)
  | .withdraw tag _ => some (.planning, 4, tag)
  | .fetch link tag _ => some (link, 5, tag)
  | .list tag _ => some (.planning, 6, tag)
  | .calendarAdd tag _ => some (.planning, 7, tag)
  | .calendarRemove tag _ => some (.planning, 8, tag)
  | .calendarRead tag _ => some (.planning, 9, tag)
  | .setClock (.addressed tag) _ => some (.planning, 10, tag)
  | .readCues tag _ => some (.planning, 11, tag)
  | .readTransmitter link tag _ => some (link, 12, tag)
  | .readAntenna link tag _ => some (link, 13, tag)
  | .readRoutes link tag _ => some (link, 14, tag)
  | .configureHall tag _ => some (.planning, 15, tag)
  | .commission tag _ => some (.planning, 16, tag)
  | .reconfigure tag _ => some (.planning, 17, tag)
  | .configureTransmitter tag _ => some (.planning, 18, tag)
  | .configureAntenna tag _ => some (.planning, 19, tag)
  | .setAlarmMask tag _ => some (.planning, 20, tag)
  | .poll link tag _ => some (link, 21, tag)
  | .setLinkRate link tag _ => some (link, 22, tag)
  | .lockAntenna tag _ => some (.console, 23, tag)
  | .freeAntenna tag _ => some (.console, 24, tag)
  | .clearSuspect tag _ => some (.console, 25, tag)
  | .clearStuck tag _ => some (.console, 26, tag)
  | .takeLocal tag _ => some (.console, 27, tag)
  | .giveRemote tag _ => some (.console, 28, tag)
  | .localRoute tag _ => some (.console, 29, tag)
  | .localTune tag _ => some (.console, 30, tag)
  | .localRfOn tag _ => some (.console, 31, tag)
  | .localRfOff tag _ => some (.console, 32, tag)
  | .clearHeld tag _ => some (.console, 33, tag)
  | .takeAmendment tag _ => some (.console, 34, tag)
  | .dropAmendment tag _ => some (.console, 35, tag)
  | .hallStop tag _ => some (.console, 36, tag)
  | .hallResume tag _ => some (.console, 37, tag)
  | .ackAlarm tag _ => some (.console, 38, tag)
  | .unknownCommand link code tag => some (link, code.toNat, tag)
  | _ => none

/-- The events of the main supply and the restart input (R177). -/
def isSupplyEvent : Instr → Bool
  | .powerUp _ | .restartAsserted | .restartReleased _ | .restartHeld5s _ | .mainSupplyLoss => true
  | _ => false

/-- A frame whose body did not decode (R185, R193). -/
def isMalformed : Instr → Bool
  | .enter _ .malformed | .loadBlock _ .malformed | .amend _ .malformed | .withdraw _ .malformed | .fetch _ _ .malformed
  | .list _ .malformed | .calendarAdd _ .malformed | .calendarRemove _ .malformed | .calendarRead _ .malformed
  | .setClock _ .malformed | .readCues _ .malformed | .readTransmitter _ _ .malformed | .readAntenna _ _ .malformed
  | .readRoutes _ _ .malformed | .configureHall _ .malformed | .commission _ .malformed | .reconfigure _ .malformed
  | .configureTransmitter _ .malformed | .configureAntenna _ .malformed | .setAlarmMask _ .malformed
  | .poll _ _ .malformed | .setLinkRate _ _ .malformed | .lockAntenna _ .malformed | .freeAntenna _ .malformed
  | .clearSuspect _ .malformed | .clearStuck _ .malformed | .takeLocal _ .malformed | .giveRemote _ .malformed
  | .localRoute _ .malformed | .localTune _ .malformed | .localRfOn _ .malformed | .localRfOff _ .malformed
  | .clearHeld _ .malformed | .takeAmendment _ .malformed | .dropAmendment _ .malformed | .hallStop _ .malformed
  | .hallResume _ .malformed | .ackAlarm _ .malformed => true
  | _ => false

/-- The events of the clock, the hall lines and the timers of the part (R25 to R28, R66, R85, R96, R134). -/
def isHallEvent : Instr → Bool
  | .secondPulse _ | .pulseWatchExpiry | .internalAdvance | .contactReport .. | .moveTimeout .. | .surveyLimit
  | .settingCompletionReport .. | .settingTimeout _ | .statusReport .. | .tuneComplete .. | .tuneTimeout _
  | .rfUpTimeout _ | .rfDownTimeout _ | .detectorConversion .. | .recycleTimerExpiry _ | .cleanRunExpiry _ => true
  | _ => false

/-- The outcome of a command answered with a result code alone, nothing else changed (R186). -/
def answers (s : State) (link : Link) (code : Nat) (tag : Byte) (r : ResultCode) : Host.Outcome State Fault Refusal :=
  .next (s.reply link code tag (some (Answer.code r)))

/-- The outcome of a command answered DONE that changes the hall. -/
def takes (s : State) (link : Link) (code : Nat) (tag : Byte) (f : Hall → Hall) : Host.Outcome State Fault Refusal :=
  .next ((s.act f).reply link code tag (some (Answer.code .done)))

/-- Nothing is left to do in a hall: no condition has come to hold, no report is left, no cue is due (log 4). -/
def Still (e : Env) (h : Hall) : Prop :=
  matrixPass e h = h ∧ enforceRf e h = h ∧ h.agenda = [] ∧ takeDue e h = none

/-- R97: RF enable is asserted only while its conditions hold, and on no line while the part does not run (R177). -/
def RfSafe (s : State) : Prop :=
  ∀ t, t < Config.rows → (s.hall.tx t).rfEnable = true →
    s.power = .running ∧ mayRadiate s.env s.hall t ((s.hall.tx t).power.getD 0) = true

/-- R4 and R36: at most 1 024 records of distinct numbers, held in ascending number; at most 4 calendar entries of distinct ids, in ascending first day. -/
def CollectionsOk (h : Hall) : Prop :=
  (h.table.records.map (·.fields.number)).Pairwise (· < ·) ∧ h.table.records.length ≤ Config.tableCapacity ∧
  (h.calendar.entries.map (·.firstDay)).Pairwise (· < ·) ∧ (h.calendar.entries.map (·.id)).Nodup ∧
  h.calendar.entries.length ≤ Config.calendarCapacity

/-- A start-up reads a hall address that five lines can give (R181). -/
def startAddressOk : Instr → Prop
  | .powerUp i | .restartReleased i => i.address < 32
  | .restartHeld5s address => address < 32
  | _ => True

/-- The fields of a link hold divisors (R181). -/
def LinkState.inRange (l : LinkState) : Prop := l.divisor ≤ 1023 ∧ l.newDivisor.all (· ≤ 1023) = true

/-- R25 and R181: clock, pending setting, divisors and hall address within their ranges, and no waiting start-up names an address out of range. -/
def InRange (s : State) : Prop :=
  s.env.clock.day ≤ Config.lastDay ∧ s.env.clock.second < Config.daySeconds ∧
  s.env.clock.setting.all clockValueOk = true ∧ s.links.planning.inRange ∧ s.links.console.inRange ∧
  s.links.address < 32 ∧ s.links.addressLines < 32 ∧ ∀ i ∈ s.pending, startAddressOk i

end Sys2Proof.Machine
end

