-- ==== Sys2Proof/Certificates/Slice0/Obligations.lean ====
section
/-! DEFINITION. The statements for the provers. Each speaks of every state; where one needs a premise, the premise is on the state and the operands alone. -/

open Sys2Proof Sys2Proof.Machine

/-! ## The queue, the timebase, and what every command does -/

/-- One step takes the command at the front of the queue and runs it on the state with the queue's rest. -/
def Obligations.StepTakesTheFrontCommand : Prop :=
  ∀ (c : Instr) (rest : List Instr) (s : State),
    step { s with pending := c :: rest } = exec c { s with pending := rest }

/-- On an empty queue the internal timebase goes on by a millisecond, and the timers that have reached their limits, those of the moves in the drive slots among them, leave their expiry in the queue (R26, R73). That time passes on an empty queue is the model's choice (log 2), and so is the level of the address lines that a part held by the restart input reads (log 21). -/
def Obligations.EmptyQueueRunsTheTimebase : Prop :=
  ∀ s : State, s.pending = [] →
    ∃ t, step s = .next t ∧ t.hall = s.hall ∧ t.links = s.links ∧ t.power = s.power ∧
      (s.power = .absent → t = s) ∧
      (s.power ≠ .absent → t.env = { s.env with timebase := s.env.timebase + 1 }) ∧
      (s.power = .running →
        (.pulseWatchExpiry ∈ t.pending ↔ s.env.clock.watch.any (· ≤ t.env.timebase) = true) ∧
        (.internalAdvance ∈ t.pending ↔
          s.env.clock.status ≠ .locked ∧ s.env.clock.lastAdvance + 1000 ≤ t.env.timebase) ∧
        (∀ r c, .moveTimeout r c ∈ t.pending ↔
          ∃ i x, i < 4 ∧ read s.hall.matrix.slots i = some x ∧ x.move.row = r ∧ x.move.col = c ∧
            x.limit ≤ t.env.timebase) ∧
        (.surveyLimit ∈ t.pending ↔ (s.hall.matrix.survey.map (·.limit)).any (· ≤ t.env.timebase) = true) ∧
        (∀ a, a < Config.columns →
          (.settingTimeout a ∈ t.pending ↔
            ((s.hall.antenna a).change.map (·.limit)).any (· ≤ t.env.timebase) = true)) ∧
        ∀ k, k < Config.rows →
          (.tuneTimeout k ∈ t.pending ↔ ((s.hall.tx k).tune.bind (·.ends)).any (· ≤ t.env.timebase) = true) ∧
          (.rfUpTimeout k ∈ t.pending ↔ (s.hall.tx k).rfUp.any (· ≤ t.env.timebase) = true) ∧
          (.rfDownTimeout k ∈ t.pending ↔ (s.hall.tx k).rfDown.any (· ≤ t.env.timebase) = true) ∧
          (.recycleTimerExpiry k ∈ t.pending ↔ (s.hall.monitor k).recycle.any (· ≤ t.env.timebase) = true) ∧
          (.cleanRunExpiry k ∈ t.pending ↔ (s.hall.monitor k).cleanRun.any (· ≤ t.env.timebase) = true)) ∧
      ∀ since, s.power = .halted since →
        t.pending = if since + 5000 ≤ t.env.timebase then [.restartHeld5s s.links.addressLines] else []

/-- Every command completes, in every state, with the rest of the queue as it stood; only an event of the supply or the restart input changes whether the part runs. -/
def Obligations.EveryCommandCompletes : Prop :=
  ∀ (i : Instr) (s : State),
    ∃ t, exec i s = .next t ∧ t.pending = s.pending ∧ (isSupplyEvent i = false → t.power = s.power)

/-- While the part is halted or without main supply it takes no frame and no event but those of the supply and the restart input (R177). These five complete in every state: POWER_UP starts a part without main supply and RESTART_RELEASED a halted one, warm when the retention domain is intact and else cold; RESTART_ASSERTED halts a running part; RESTART_HELD_5S starts a halted part cold; MAIN_SUPPLY_LOSS leaves a part without supply; the assertion and the loss withdraw RF enable on every line; in any other state of the part each changes nothing (R176, R177). The model's choices: RF enable withdrawn at the loss of the main supply too (log 20), the timebase brought up to five seconds after the assertion (log 3), what a start-up finds given as operands of its command (log 21), no level of the restart input kept, so that a part without supply takes no note of it and starts running when the supply rises (log 68). -/
def Obligations.HaltedPartTakesOnlySupplyEvents : Prop :=
  (∀ (i : Instr) (s : State), s.power ≠ .running → isSupplyEvent i = false → exec i s = .next s) ∧
  (∀ (s : State) (i : StartInputs) (address : Nat),
    exec (.powerUp i) s = .next (if s.power = .absent then startUp i s else s) ∧
    exec .restartAsserted s = .next
      (if s.power = .running then { s with power := .halted s.env.timebase, hall := withdrawAll s.hall } else s) ∧
    exec (.restartReleased i) s = .next
      (match s.power with
       | .halted _ => startUp i s
       | _ => s) ∧
    exec (.restartHeld5s address) s = .next
      (match s.power with
       | .halted since => coldStart address { s with env := { s.env with timebase := max s.env.timebase (since + 5000) } }
       | _ => s) ∧
    exec .mainSupplyLoss s = .next
      (if s.power = .absent then s else { s with power := .absent, hall := withdrawAll s.hall }) ∧
    startUp i s = if i.intact then warmStart i s else coldStart i.address s) ∧
  ∀ h : Hall, (∀ k, k < 12 → (withdrawAll h).tx k = { h.tx k with rfEnable := false }) ∧
    withdrawAll h = { h with txs := (withdrawAll h).txs }

/-- What a command that changes the hall does with it: the orders of earlier commands are forgotten, the command's own change is made, and what follows is taken until nothing is left (R31, R47, R72, R83, R84, R97). That goes in rounds: RF enable is tested, and outside the survey LOCK_PENDING columns that hold nothing become LOCKED, settings that may go are sent and free drive slots given; then the first report owed to the carriage controller is taken, or with none left the first cue, when it is due, the clock is not UNSET and no survey runs, and after it, while the shortage flag is set, what the list lacks is admitted as far as room allows; a round that takes neither is the last, and RF enable is tested once more. A cue is taken as a PREPARE, a carry START, a START or a STOP. A hall in which nothing is left to do stays as it is. The order of all this, that a report that a transmitter is HELD goes ahead of those already owed, and the limit of 65 536 rounds are the model's choice (log 4); that with a survey running no cue is taken, no column locked, no setting sent and no slot given is its reading (log 7); that columns and transmitters are gone through by ascending number is its choice (logs 45 and 62), and so are what counts as left out for want of room (log 40), that no cue in the list leaves for it (log 38, a reading), that a carriage sent back by an INTERLOCK keys again after all this in the next command (log 8) and that the orders of earlier commands are forgotten (log 23). -/
def Obligations.NothingFollowsInAStillHall : Prop :=
  (∀ (e : Env) (h : Hall), Still e h → conclude e [] h = h) ∧
  (∀ (s : State) (f : Hall → Hall),
     s.act f = { s with hall := conclude s.env s.hall.keyAgain (f { s.hall with orders := [] }) }) ∧
  (∀ (e : Env) (waiting : List Nat) (h : Hall) (n : Nat),
     conclude e waiting h =
       (if waiting = [] then settle e h
        else settle e (waiting.foldl (fun h t => retryKeying e t h) (settle e h))) ∧
     settle e h = enforceRf e (settleRounds e Config.settleLimit h) ∧ Config.settleLimit = 65536 ∧
     settleRounds e 0 h = h ∧
     settleRounds e (n + 1) h =
       (let round := takeNext e (matrixPass e h)
        if round.2 = true then settleRounds e n round.1 else round.1) ∧
     matrixPass e h =
       (let lit := enforceRf e h
        if lit.matrix.survey ≠ none then lit
        else
          let locked := (List.range 25).foldl (fun h a => completeLock e a h) lit
          let sent := (List.range 25).foldl (fun h a => sendSetting e a h) locked
          giveSlots e 4 (drainOverflow sent))) ∧
  (∀ (e : Env) (h : Hall),
     (∀ r rest, h.agenda = r :: rest → takeNext e h = (takeReport e r { h with agenda := rest }, true)) ∧
     (h.agenda = [] →
       (∀ c rest, h.lookahead.cues = c :: rest → c.due ≤ e.now → e.clock.status ≠ .unset → h.matrix.survey = none →
         takeNext e h =
           (let taken := takeCue e c { h with lookahead := { h.lookahead with cues := rest } }
            (if taken.lookahead.short = true then remake e (fun _ => .lacking) taken else taken, true))) ∧
       ((∀ c rest, h.lookahead.cues = c :: rest → e.now < c.due) ∨ e.clock.status = .unset ∨ h.matrix.survey ≠ none →
         takeNext e h = (h, false)))) ∧
  (∀ (e : Env) (c : Cue) (h : Hall),
     takeCue e c h =
       match c.kind with
       | .prepare => takePrepare e c h
       | .start => if c.carry = true then takeCarryStart e c h else takeStart e c h
       | .stop => takeStop e c h) ∧
  ∀ (e : Env) (t : Nat) (r : Report) (h : Hall),
    retryKeying e t h =
      (if t ∈ h.keyAgain then workCheck e t { h with keyAgain := h.keyAgain.filter (· != t) } else h) ∧
    raise r h = { h with agenda := h.agenda ++ [r] } ∧ raiseFirst r h = { h with agenda := r :: h.agenda }

/-- The events of the clock, the hall lines and the timers complete in every state; they leave the planning link, the configuration, the hall mode and the alarm mask as they stand, and but for the end of the survey the console link too. -/
def Obligations.HallEventsLeaveLinksAndConfiguration : Prop :=
  ∀ (i : Instr) (s : State), isHallEvent i = true →
    ∃ t, exec i s = .next t ∧ t.links.planning = s.links.planning ∧ t.links.address = s.links.address ∧
      t.links.console.divisor = s.links.console.divisor ∧ t.env.config = s.env.config ∧ t.env.mode = s.env.mode ∧
      t.env.mask = s.env.mask ∧ (s.hall.matrix.survey = none → t.links = s.links)

/-! ## The links (11) -/

/-- A frame that is complete while a request of its link is outstanding, that its link's receiver does not hear, or that reaches a part that does not run or has no address of its own, is discarded: nothing but the receiver of its link changes (R182, R183, R185; what a receiver hears is log 22's). A frame that is taken with a body that does not decode is answered FORMAT at once and changes nothing else; CONFIGURE HALL answers with the hall record beside it: the model's reading of R171 and R185 together (log 35). -/
def Obligations.FramesDiscardedOrMalformed : Prop :=
  (∀ (i : Instr) (s : State) (link : Link) (code : Nat) (tag : Byte), frameOf i = some (link, code, tag) →
     s.takes link = false → exec i s = .next (s.setReceiver link .waiting)) ∧
  (∀ (i : Instr) (s : State) (link : Link) (code : Nat) (tag : Byte), frameOf i = some (link, code, tag) →
     s.takes link = true → isMalformed i = true →
       exec i s = .next (s.reply link code tag (some
         (match i with
           | .configureHall .. => { result := .format, body := .hall s.env.config.hall s.env.mode }
           | _ => Answer.code .format))))

/-- A frame that is taken completes and becomes its link's outstanding request under its own code and tag; it is answered at once unless the matrix survey is still running; the other link stays as it is (R185). -/
def Obligations.FrameTakenBecomesOutstanding : Prop :=
  ∀ (i : Instr) (s : State) (link : Link) (code : Nat) (tag : Byte), frameOf i = some (link, code, tag) →
    s.takes link = true →
      ∃ t a, exec i s = .next t ∧
        (t.links.side link).outstanding = some { code := BitVec.ofNat 8 code, tag := tag, answer := a } ∧
        (a = none → s.hall.matrix.survey.isSome = true) ∧ (t.links.side link).divisor = (s.links.side link).divisor ∧
        ∀ other, other ≠ link → t.links.side other = s.links.side other

/-- A command refused with any code other than DONE or PARKED leaves every block as it stood (R186). -/
def Obligations.RefusalLeavesTheStateAsItStood : Prop :=
  ∀ (i : Instr) (s t : State) (link : Link) (code : Nat) (tag : Byte) (a : Answer),
    frameOf i = some (link, code, tag) → s.takes link = true → exec i s = .next t →
    (t.links.side link).outstanding = some { code := BitVec.ofNat 8 code, tag := tag, answer := some a } →
    a.result ≠ .done → a.result ≠ .parked → t.hall = s.hall ∧ t.env = s.env

/-- A gap, a break or a discarded frame changes the receiver of its own link and nothing else: not the other link, not an outstanding request, no block; a receiver disabled while its part drives the line, or one of a part that does not run, stays as it is (R177, R182, R183). After a gap the console link is idle and the planning link waits for a marked character or still ignores another hall's frame; after a break or a discard a link waits, and a marked character begins the next frame for this hall, for all halls, or to be ignored, by its address (R182, R183). With the last character of a response nothing is outstanding on its link, its receiver is enabled again, and a divisor given by SET LINK RATE becomes the link's (R182, R185, R187). A complete request leaves the planning receiver disabled from its answer until its response is sent and waiting before that, and the console receiver waiting until the line is idle (R182, R183). The values that stand for what a receiver does are the model's choice (log 22). A character is read back from its bits; a planning response begins with the responder's marked address and marks no other character, a console response marks none (R181, R185). -/
def Obligations.LinkEventsAndResponses : Prop :=
  ((∀ (link : Link) (s : State) (i : Instr) (next : Receiver),
      (i = .characterGapTimeout link ∧ next = afterGap link (s.links.side link).receiver) ∨
      (i = .linkBreak link ∧ next = .waiting) ∨
      (∃ cause, i = .frameDiscard link cause ∧ next = afterDiscard s.links.address link cause) →
        exec i s = .next
          (if s.power = .running ∧ (s.links.side link).receiver ≠ .disabled then
             { s with links := s.links.setSide link fun l => { l with receiver := next } }
           else s)) ∧
   (∀ r, afterGap .console r = .idle ∧ afterGap .planning r = if r = .ignoring then .ignoring else .waiting) ∧
   ∀ (hall : Nat) (cause : Discard),
     afterDiscard hall .console cause = .waiting ∧
     (∀ address, cause = .marked address → afterDiscard hall .planning cause =
       if address = 0 then .broadcast else if address = hall then .receiving else .ignoring) ∧
     ((∀ address, cause ≠ .marked address) → afterDiscard hall .planning cause = .waiting)) ∧
  ((∀ (link : Link) (s : State) (o : Outstanding) (a : Answer), s.power = .running →
      (s.links.side link).outstanding = some o → o.answer = some a →
        exec (.responseSent link) s = .next { s with links := s.links.setSide link fun l =>
          { l with outstanding := none, divisor := l.newDivisor.getD l.divisor, newDivisor := none
                   receiver := if l.receiver = .disabled then .waiting else l.receiver } }) ∧
   (∀ (s : State) (link : Link) (code : Nat) (tag : Byte) (a : Option Answer),
      ((s.reply link code tag a).links.side link).receiver =
        match link with
        | .planning => if a.isSome then .disabled else .waiting
        | .console => .waiting) ∧
   (∀ (link : Link) (c : LinkCharacter), (link = .console → c.mark = false) →
      readCharacter link (characterBits link c) = some c) ∧
   ∀ (hall : Nat) (o : Outstanding) (l : List Byte), responseBytes o = some l →
     responseCharacters .planning hall o =
       some ({ mark := true, data := BitVec.ofNat 8 hall } :: l.map fun b => { mark := false, data := b }) ∧
     responseCharacters .console hall o = some (l.map fun b => { mark := false, data := b }))

/-- SET LINK RATE: a divisor above 1 023 is refused with FORMAT; another is answered DONE with the divisor, and waits for the response to be sent (R187). A code no command of its link has is answered UNKNOWN_COMMAND (R185). -/
def Obligations.LinkRateAndUnknownCommand : Prop :=
  ∀ (s : State) (link : Link) (tag code : Byte) (n : Nat), s.takes link = true →
    (exec (.setLinkRate link tag (.fields n)) s =
      if 1023 < n then answers s link 22 tag .format
      else .next (State.reply { s with links := s.links.setSide link fun l => { l with newDivisor := some n } }
        link 22 tag (some { result := .done, body := .divisor n }))) ∧
    exec (.unknownCommand link code tag) s = answers s link code.toNat tag .unknownCommand

/-- POLL answers DONE with every member of its link's summary and its subject in ascending kind code, the alarm set and the output, and empties that summary alone (R189). -/
def Obligations.PollReadsAndEmptiesOneSummary : Prop :=
  (∀ (s : State) (link : Link) (tag : Byte), s.takes link = true →
    ∃ t, exec (.poll link tag (.fields ())) s = .next t ∧
      (t.links.side link).outstanding = some
        { code := 21#8, tag := tag
          answer := some { result := .done
                           body := .poll (members (s.hall.attention.summary link)) s.hall.attention.alarm
                             (decide (s.hall.attention.alarm ≠ 0)) } } ∧
      (∀ k, read (t.hall.attention.summary link) k = none) ∧
      (∀ other, other ≠ link → t.hall.attention.summary other = s.hall.attention.summary other) ∧
      t.hall = { s.hall with attention := t.hall.attention } ∧ t.hall.attention.alarm = s.hall.attention.alarm ∧
      t.env = s.env ∧ ∀ other, other ≠ link → t.links.side other = s.links.side other) ∧
  ∀ summary : Vector (Option Nat) 24,
    (∀ k v, (k, v) ∈ members summary ↔ 1 ≤ k ∧ k ≤ 24 ∧ read summary (k - 1) = some v) ∧
    ((members summary).map (·.1)).Pairwise (· < ·)

/-- SET ALARM MASK replaces the mask and answers with it, refusing a set that names more than the 24 kinds, and leaves the alarm as it is (R190); ACK ALARM empties the alarm set alone (R191). -/
def Obligations.AlarmMaskAndAcknowledgement : Prop :=
  (∀ (s : State) (tag : Byte) (m : BitVec 32), s.takes .planning = true →
    exec (.setAlarmMask tag (.fields m)) s =
      if m.toNat < 2 ^ 24 then
        .next (State.reply { s with env := { s.env with mask := m.setWidth 24 } } .planning 20 tag
          (some { result := .done, body := .mask (m.setWidth 24) }))
      else answers s .planning 20 tag .format) ∧
  ∀ (s : State) (tag : Byte), s.takes .console = true →
    exec (.ackAlarm tag (.fields ())) s =
      answers { s with hall := { s.hall with attention := { s.hall.attention with alarm := 0 } } } .console 38 tag .done

/-- A posting gives its kind its subject in both summaries, joins the alarm set when the mask holds the kind, and changes nothing else (R188, R191). -/
def Obligations.PostingEntersSummariesAndAlarm : Prop :=
  ∀ (e : Env) (k : EventKind) (v : Nat) (h : Hall),
    (∀ j, read (post e k v h).attention.planning j =
      if j = k.bit then some v else read h.attention.planning j) ∧
    (∀ j, read (post e k v h).attention.console j = if j = k.bit then some v else read h.attention.console j) ∧
    (∀ j : EventKind, KindSet.holds (post e k v h).attention.alarm j =
      (KindSet.holds h.attention.alarm j || (decide (j = k) && KindSet.holds e.mask k))) ∧
    post e k v h = { h with attention := (post e k v h).attention }

/-- The check starts at all ones and takes each character's bits most significant first (R184); a received frame carries the check over its length, command code and body, or does not match; every response is sent with its own. -/
def Obligations.CheckOfFramesAndResponses : Prop :=
  (crc [] = 0xFFFF#16 ∧ ∀ l b, crc (l ++ [b]) =
    [7, 6, 5, 4, 3, 2, 1, 0].foldl (fun (reg : Word16) (i : Nat) =>
      if reg.msb ≠ b.getLsbD i then (reg <<< 1) ^^^ 0x1021#16 else reg <<< 1) (crc l)) ∧
  crc [0x31#8, 0x32#8, 0x33#8, 0x34#8, 0x35#8, 0x36#8, 0x37#8, 0x38#8, 0x39#8] = 0x29B1#16 ∧
  (∀ (link : Link) (code : Nat) (tag high low : Byte) (body : List Byte), code < 256 → body.length ≤ 248 →
    frameCommand link false (framed code (tag :: body) ++ [high, low]) =
      if high ++ low = crc (framed code (tag :: body)) then commandOf link code tag body
      else .frameDiscard link .badCheck) ∧
  ∀ (o : Outstanding) (l : List Byte), responseBytes o = some l →
    ∃ sent high low, l = sent ++ [high, low] ∧ high ++ low = crc sent

/-- Every well-formed command frame is read back from the bytes of its body: no bit of an operand is dropped (R192, R193, Tables 46 and 47). -/
def Obligations.CommandBodiesDecodeBack : Prop :=
  ∀ (i : Instr) (link : Link) (code : Nat) (tag : Byte) (body : List Byte), i.wf = true →
    frameOf i = some (link, code, tag) → bodyBytes i = some body → commandOf link code tag body = i

/-! ## The booking table: entry checks and conflicts (01) -/

/-- The entry checks are made in the order of Table 5 and the first that fails names the code; only the three conflict codes carry a number and a mark (R6). -/
def Obligations.EntryChecksInOrder : Prop :=
  ∀ (e : Env) (h : Hall) (amending : Bool) (b : Offered),
    (entryCheck e h amending b).map (·.1) =
      (([(!formatOk b, .format), (!seasonOk e h b, .season), (!rangeOk e b, .range), (!bandOk e b, .band),
         (!powerOk e b, .power), (!settingOk e b, .setting),
         (!amending && h.table.records.any fun r => r.fields.number == b.number, .exists),
         (amending && !h.table.records.any fun r => r.fields.number == b.number, .unknown),
         ((conflictOf e h b).isSome, ((conflictOf e h b).map (·.1)).getD .done),
         (!amending && decide (1024 ≤ h.table.records.length), .full)] : List (Bool × ResultCode)).find? (·.1)).map (·.2) ∧
    (∀ r x, entryCheck e h amending b = some (r, some x) → conflictOf e h b = some (r, x)) ∧
    ∀ r, entryCheck e h amending b = some (r, none) → r ≠ .conflictTx ∧ r ≠ .conflictAnt ∧ r ≠ .conflictFreq

/-- The FORMAT check passes a record exactly when none of R7's cases holds; the SEASON, RANGE, BAND, POWER and SETTING checks exactly when it names a season of the calendar that has not ended and fits its transmitter, its main antenna and its alternate (R7 to R11). -/
def Obligations.FieldAndFitChecks : Prop :=
  (∀ b : Offered, formatOk b = true ↔
     (1 ≤ b.number ∧ b.number ≤ 9999) ∧ (1 ≤ b.season ∧ b.season ≤ 255) ∧ b.transmitter ≤ 11 ∧ b.antenna ≤ 24 ∧
     (∀ a, b.alternate = some a → a ≤ 24 ∧ a ≠ b.antenna) ∧ (-6 ≤ b.setting.slew ∧ b.setting.slew ≤ 6) ∧
     (2300 ≤ b.frequency ∧ b.frequency ≤ 26100 ∧ 5 ∣ b.frequency) ∧ (10 ≤ b.power ∧ b.power ≤ 600) ∧ b.start ≤ 1439 ∧
     (1 ≤ b.duration ∧ b.duration ≤ 1440) ∧ (∃ w : Fin 7, b.days[w.val] = true) ∧
     (∀ f l, b.firstDay = some f → b.lastDay = some l → f ≤ l) ∧ b.label.length ≤ 12 ∧ ∀ c ∈ b.label, 32 ≤ c ∧ c ≤ 126) ∧
  (∀ (e : Env) (h : Hall) (b : Offered),
     (seasonOk e h b = true ↔ (∃ s ∈ h.calendar.entries, s.id = b.season) ∧
       (e.clock.status ≠ .unset → ∀ s ∈ h.calendar.entries, s.id = b.season →
         ∀ n ∈ h.calendar.entries, s.firstDay < n.firstDay → e.clock.day < n.firstDay)) ∧
     (rangeOk e b = true ↔ (e.txConfig b.transmitter).present = true ∧ (e.antConfig b.antenna).present = true ∧
       (∀ a, b.alternate = some a → (e.antConfig a).present = true) ∧
       (e.txConfig b.transmitter).minFreq ≤ b.frequency ∧ b.frequency ≤ (e.txConfig b.transmitter).maxFreq) ∧
     (bandOk e b = true ↔
       (∃ w ∈ (e.antConfig b.antenna).windows, w.low ≤ b.frequency ∧ b.frequency ≤ w.high) ∧
       ∀ a, b.alternate = some a →
         (∃ w ∈ (e.antConfig a).windows, w.low ≤ b.frequency ∧ b.frequency ≤ w.high) ∧ b.power ≤ (e.antConfig a).rating) ∧
     (powerOk e b = true ↔ b.power ≤ (e.txConfig b.transmitter).rated ∧ b.power ≤ (e.antConfig b.antenna).rating) ∧
     (settingOk e b = true ↔ b.setting.slew.natAbs ≤ (e.antConfig b.antenna).maxSlew ∧
       (b.setting.dir = .reverse → (e.antConfig b.antenna).reversible = true)))

/-- Two records overlap across the week when some pair of their weekly intervals overlaps on the circle of 10 080 minutes; intervals that merely touch do not (R14). -/
def Obligations.WeeklyIntervalsOverlap : Prop :=
  ∀ x y : Offered, weekOverlap x y = true ↔
    ∃ v w : Fin 7, x.days[v.val] = true ∧ y.days[w.val] = true ∧
      ((((w.val * 1440 + y.start : Nat) : Int) - ((v.val * 1440 + x.start : Nat) : Int)) % 10080 < (x.duration : Int) ∨
       (((v.val * 1440 + x.start : Nat) : Int) - ((w.val * 1440 + y.start : Nat) : Int)) % 10080 < (y.duration : Int))

/-- An offered record is compared with the current and the parked fields of every other record of its season that it overlaps in the week and in their ranges of days, an end extended by a day past midnight (R13, R15); a transmitter conflict is looked for among all first, then a main antenna, then frequencies closer than the guard spacing, and the first record found is named, in ascending number, current fields before parked (R6, R13, R16). The parked fields of a booking are those of the amendment slot that names it; of two such slots the lowest transmitter's, the model's choice (log 64). -/
def Obligations.ConflictsOfARecord : Prop :=
  ((∀ x y : Offered, datesOverlap x y = true ↔
     (∀ f l, x.firstDay = some f → y.lastDay = some l → f ≤ l + if 1440 < y.start + y.duration then 1 else 0) ∧
     ∀ f l, y.firstDay = some f → x.lastDay = some l → f ≤ l + if 1440 < x.start + x.duration then 1 else 0) ∧
   ∀ (h : Hall) (b : Offered),
     (∀ c, c ∈ comparedWith h b ↔
       c.number ≠ b.number ∧ c.fields.season = b.season ∧ weekOverlap b c.fields = true ∧ datesOverlap b c.fields = true ∧
       ∃ r ∈ h.table.records, r.fields.number = c.number ∧
         ((c.parked = false ∧ c.fields = r.fields) ∨ (c.parked = true ∧ parkedOf h c.number = some c.fields))) ∧
     (∀ number p, parkedOf h number = some p ↔ ∃ t, t < 12 ∧ h.slotOf t = some p ∧ p.number = number ∧
       ∀ u, u < t → ∀ q, h.slotOf u = some q → q.number ≠ number) ∧
     (CollectionsOk h → (comparedWith h b).Pairwise fun c d =>
       c.number < d.number ∨ (c.number = d.number ∧ c.parked = false ∧ d.parked = true))) ∧
  (∀ (e : Env) (h : Hall) (b : Offered),
     conflictOf e h b =
       ((((comparedWith h b).find? fun c => c.fields.transmitter == b.transmitter).map fun c =>
           (.conflictTx, c.number, c.parked)).or
        (((comparedWith h b).find? fun c => c.fields.antenna == b.antenna).map fun c =>
           (.conflictAnt, c.number, c.parked))).or
        (((comparedWith h b).find? fun c =>
           decide (((c.fields.frequency : Int) - (b.frequency : Int)).natAbs < e.config.hall.guard)).map fun c =>
             (.conflictFreq, c.number, c.parked)))

/-! ## The booking table: commands (01, 08) -/

/-- The nearly-full test posts the free count once each time it falls to the level from above (R5). -/
def Obligations.NearlyFullLevel : Prop :=
  ∀ (e : Env) (h : Hall),
    nearlyFullTest e h =
      if e.config.hall.nearlyFull < 1024 - h.table.records.length then
        { h with table := { h.table with armed := true } }
      else if h.table.armed = true then
        { h with table := { h.table with armed := false }
                 attention := h.attention.post e.mask .tableNearlyFull (1024 - h.table.records.length) }
      else h

/-- ENTER: a record that fails a check is refused with its code, and number and mark of a conflict; another is added ACTIVE, never run, its outcome NONE, every other record as it stood, and its transmitter's cues are made again of the table with it (R17, R50). -/
def Obligations.EnterAddsTheRecord : Prop :=
  (∀ (s : State) (tag : Byte) (b : Offered), s.takes .planning = true →
    exec (.enter tag (.fields b)) s =
      match entryCheck s.env s.hall false b with
      | some (code, none) => answers s .planning 1 tag code
      | some (code, some (number, mark)) =>
        .next (s.reply .planning 1 tag (some { result := code, body := .booking number mark }))
      | none => takes s .planning 1 tag (addBooking s.env b)) ∧
  ∀ (e : Env) (b : Offered) (h : Hall),
    (∀ r, r ∈ (addBooking e b h).table.records ↔
      r = { fields := b, state := .active, lastRun := none, outcome := .none } ∨ r ∈ h.table.records) ∧
    (addBooking e b h).table.records.length = h.table.records.length + 1 ∧
    (addBooking e b h).lookahead =
      (refresh e b.transmitter
        { h with table := { h.table with records := (addBooking e b h).table.records } }).lookahead ∧
    addBooking e b h = { h with table := (addBooking e b h).table, lookahead := (addBooking e b h).lookahead
                                attention := (addBooking e b h).attention }

/-- LOAD BLOCK: 1 to 8 records are judged one after another, each against a table that holds those accepted before it, and answered DONE with a result for each; another number of records is refused FORMAT (R18). -/
def Obligations.LoadBlockJudgesInTurn : Prop :=
  (∀ (s : State) (tag : Byte) (l : List Offered), s.takes .planning = true →
    exec (.loadBlock tag (.fields l)) s =
      if l.length < 1 ∨ 8 < l.length then answers s .planning 2 tag .format
      else .next ((s.act fun h => (loadRecords s.env l h).1).reply .planning 2 tag
        (some { result := .done, body := .block (loadRecords s.env l s.hall).2 }))) ∧
  ∀ (e : Env) (l : List Offered) (b : Offered) (h : Hall),
    loadRecords e [] h = (h, []) ∧
    loadRecords e (l ++ [b]) h =
      (match entryCheck e (loadRecords e l h).1 false b with
       | some r => ((loadRecords e l h).1, (loadRecords e l h).2 ++ [r])
       | none => (addBooking e b (loadRecords e l h).1, (loadRecords e l h).2 ++ [(.done, none)])) ∧
    (loadRecords e l h).2.length = l.length

/-- AMEND: refused as the checks say; applied at once to a booking without a carriage; for one with a carriage the first case of R147 that applies: WITHDRAWING is BUSY, preparing is applied and abandoned, and its day readmitted where the new fields still carry it (the first three conditions of R3), an occupied slot is BUSY, a parking field or a power above the antenna's rating is PARKED, the rest applied at once (R19, R146 to R150). The record takes the offered fields and the state ACTIVE and keeps its last run day and last outcome, every other record as it stood (R19); on air a new power is set and a new duration moves the STOP (R149): a STOP of the occurrence that is in the list takes the new due time, the list is put in order and the transmitter refreshed, and a request for one that is not there is discarded (R54). The carriage of a booking is the one that names its number, and of two the one of the lower transmitter: the model's choice where the number was entered anew while the carriage ends (log 63) and where a booking has two (log 64). -/
def Obligations.AmendTakenByTheCarriage : Prop :=
  (∀ (s : State) (tag : Byte) (b : Offered), s.takes .planning = true →
     exec (.amend tag (.fields b)) s =
       match entryCheck s.env s.hall true b, s.hall.booking b.number with
       | some (code, none), _ => answers s .planning 3 tag code
       | some (code, some (number, mark)), _ =>
         .next (s.reply .planning 3 tag (some { result := code, body := .booking number mark }))
       | none, none => answers s .planning 3 tag .unknown
       | none, some old =>
         match s.hall.served b.number with
         | none => takes s .planning 3 tag (replaceBooking s.env b)
         | some (t, c) =>
           if old.state = .withdrawing then answers s .planning 3 tag .busy
           else if c.phase.early = true ∧ c.aired = false then
             takes s .planning 3 tag fun h =>
               let left := abandon s.env t (replaceBooking s.env b h)
               if carriesDay left.calendar.entries b c.day then readmit s.env b.number c.day left else left
           else if (s.hall.slotOf t).isSome = true then answers s .planning 3 tag .busy
           else if (¬ (b.transmitter = old.fields.transmitter ∧ b.antenna = old.fields.antenna ∧
                 b.setting = old.fields.setting ∧ b.frequency = old.fields.frequency ∧ b.start = old.fields.start ∧
                 b.days = old.fields.days ∧ b.firstDay = old.fields.firstDay ∧ b.lastDay = old.fields.lastDay ∧
                 b.season = old.fields.season)) ∨ (s.env.antConfig c.antenna).rating < b.power then
             .next ((s.act fun h => post s.env .amendmentParked b.number (h.setSlot t (some b))).reply .planning 3 tag
               (some (Answer.code .parked)))
           else takes s .planning 3 tag (amendOnAir s.env t c old.fields b)) ∧
  ((∀ (e : Env) (b : Offered) (h : Hall),
     (replaceBooking e b h).table.records =
       h.table.records.map (fun r => if r.fields.number = b.number then { r with fields := b, state := .active } else r) ∧
     replaceBooking e b h = { h with table := (replaceBooking e b h).table
                                     lookahead := (replaceBooking e b h).lookahead
                                     attention := (replaceBooking e b h).attention }) ∧
   ∀ (e : Env) (t : Nat) (c : Carriage) (old b : Offered) (h : Hall), t < 12 → h.carriage t = some c →
     (amendOnAir e t c old b h).carriage t = some
       { c with power := if b.power = old.power ∨ c.phase = .ending then c.power else b.power
                stop := if b.duration = old.duration ∨ c.phase = .ending then c.stop else c.start + b.duration * 60 } ∧
     (amendOnAir e t c old b h).table = (replaceBooking e b h).table) ∧
  (∀ (e : Env) (t : Nat) (c : Carriage) (old b : Offered) (h : Hall),
     let replaced := replaceBooking e b h
     let powered := if b.power = old.power ∨ c.phase = .ending then replaced
       else setPower e t b.power (replaced.mapCarriage t fun d => { d with power := b.power })
     amendOnAir e t c old b h =
       if b.duration = old.duration ∨ c.phase = .ending then powered
       else moveStop e t c.booking c.day (c.start + b.duration * 60)
         (powered.mapCarriage t fun d => { d with stop := c.start + b.duration * 60 })) ∧
  (∀ (entries : List SeasonEntry) (b : Offered) (day : Nat),
     carriesDay entries b day = true ↔
       (∃ _ : day % 7 < 7, b.days[day % 7] = true) ∧ liveOn entries day = some b.season ∧
       (∀ f, b.firstDay = some f → f ≤ day) ∧ ∀ l, b.lastDay = some l → day ≤ l) ∧
  (∀ (h : Hall) (number t : Nat) (c : Carriage),
     h.served number = some (t, c) ↔ t < 12 ∧ h.carriage t = some c ∧ c.booking = number ∧
       ∀ u, u < t → ∀ d, h.carriage u = some d → d.booking ≠ number) ∧
  ∀ (e : Env) (t number day due : Nat) (h : Hall),
    moveStop e t number day due h =
      if ∃ c ∈ h.lookahead.cues, c.booking = number ∧ c.day = day ∧ c.kind = .stop then
        refresh e t (h.mapLookahead fun l => { l with cues := sortBy Cue.before (l.cues.map fun c =>
          if c.booking = number ∧ c.day = day ∧ c.kind = .stop then { c with due := due } else c) })
      else h

/-- WITHDRAW: UNKNOWN without the record; removed with no carriage; a preparing booking's changeover abandoned and the record removed; on air, with NOW the carriage stopped and the record removed, without NOW the record WITHDRAWING and its parked amendment dropped (R20, R155, R156). An abandonment has RF OFF asked for where RF could be on, gives up the carriage's claim with the column's setting request, withdraws its tune as CarriageEndReleasesEverything spells it out, tells the sequencer and the monitor, whose counts and timers it clears, writes no outcome, has the occurrence's cues dropped, and then reaches the waiting list (R131). Cues are dropped only where one of the occurrence is left in the list, the transmitter then refreshed; else the request is discarded (R54). The model's choices: a WITHDRAWING booking whose unaired carriage is back at its work is abandoned too (log 58), an amendment still parked for an abandoned booking is dropped (log 49), and which carriage serves a booking where its number was entered anew (log 63) or where it has two (log 64). -/
def Obligations.WithdrawTakenByTheCarriage : Prop :=
  (∀ (s : State) (tag : Byte) (w : WithdrawArgs), s.takes .planning = true →
    exec (.withdraw tag (.fields w)) s =
      match s.hall.booking w.number with
      | none => answers s .planning 4 tag .unknown
      | some old =>
        match s.hall.served w.number with
        | none => takes s .planning 4 tag (removeBooking s.env w.number)
        | some (t, c) =>
          if c.phase.early = true ∧ c.aired = false then
            takes s .planning 4 tag fun h => removeBooking s.env w.number (abandon s.env t h)
          else if w.now = true then
            takes s .planning 4 tag fun h =>
              removeBooking s.env w.number
                (dropCues s.env t w.number c.day (stopCarriage s.env t c.stop false (dropParked s.env t h)))
          else if old.state = .withdrawing then answers s .planning 4 tag .done
          else takes s .planning 4 tag fun h =>
            refresh s.env old.fields.transmitter
              ((dropParked s.env t h).mapBooking w.number fun b => { b with state := .withdrawing })) ∧
  (∀ (e : Env) (number : Nat) (h : Hall),
    (removeBooking e number h).table.records = h.table.records.filter (fun r => r.fields.number != number) ∧
    (h.matrix.survey = none → (h.booking number).isSome = true →
      ∀ c ∈ (removeBooking e number h).lookahead.cues, c.booking ≠ number)) ∧
  (∀ (e : Env) (t number day : Nat) (h : Hall),
    dropCues e t number day h =
      if ∃ c ∈ h.lookahead.cues, c.booking = number ∧ c.day = day then
        refresh e t (h.mapLookahead fun l =>
          { l with cues := l.cues.filter fun c => !(c.booking == number && c.day == day) })
      else h) ∧
  ∀ (e : Env) (t : Nat) (c : Carriage) (h : Hall), t < 12 → h.carriage t = some c →
    let dropped := dropParked e t h
    let off := if (h.tx t).rfEnable = true ∨ e.rfPresent t = true then rfOff e t dropped else dropped
    let left := refresh e t (dropCues e t c.booking c.day (detach e t off))
    abandon e t h = reachWaiting e t left ∧
    left.carriage t = none ∧ (∀ u, u ≠ t → left.carriage u = h.carriage u) ∧
    ((∀ a b, h.claim a = some t → h.claim b = some t → a = b) → claimOf left t = none) ∧
    ((∀ a b, h.claim a = some t → h.claim b = some t → a = b) → ∀ a, a < 25 → h.claim a = some t →
      left.claim a = none ∧ (left.antenna a).wanted = none) ∧
    left.table = h.table ∧ (left.tx t).rfEnable = false ∧
    left.tx t =
      { (withdrawTune e t off).tx t with
        state := if (h.tx t).state = .held ∨ (h.tx t).state = .console then (h.tx t).state else .idle } ∧
    (left.tx t).state = (if (h.tx t).state = .held ∨ (h.tx t).state = .console then (h.tx t).state else .idle) ∧
    left.monitor t =
      { h.monitor t with tripCount := 0, tripRun := 0, warnRun := 0, recycle := none, cleanRun := none, window := []
                         tripAntenna := none }

/-! ## The commands that read (01, 02, 03, 04, 05) -/

/-- FETCH answers the record and its parked amendment, or UNKNOWN (R21; of two parked amendments that of the lowest transmitter, the model's choice, log 64); LIST up to 60 matching numbers from the starting number on, in ascending order, and whether more match (R22); CALENDAR READ the clock, the live season and every entry with its ended mark and the bookings that name it (R41); READ CUES up to 24 cues from a position on, the number of cues, the shortage flag and the horizon (R55). None changes anything but the answer. -/
def Obligations.TableCalendarAndCuesRead : Prop :=
  ((∀ (s : State) (link : Link) (tag : Byte) (n : Nat), s.takes link = true →
     exec (.fetch link tag (.fields n)) s = .next (s.reply link 5 tag (some
       (match s.hall.table.records.find? fun r => r.fields.number == n with
        | none => Answer.code .unknown
        | some r => { result := .done, body := .record r (parkedOf s.hall n) })))) ∧
   (∀ (s : State) (tag : Byte) (a : ListArgs), s.takes .planning = true →
     let found := (s.hall.table.records.map (·.fields)).filter fun b =>
       decide (a.start ≤ b.number) && a.transmitter.all (· == b.transmitter) &&
       a.antenna.all (fun x => b.antenna == x || b.alternate == some x) && a.season.all (· == b.season)
     exec (.list tag (.fields a)) s = .next (s.reply .planning 6 tag (some
       (if a.start < 1 ∨ 9999 < a.start ∨ a.transmitter.any (11 < ·) = true ∨ a.antenna.any (24 < ·) = true ∨
           a.season.any (fun x => x < 1 || 255 < x) = true then Answer.code .format
        else { result := .done, body := .numbers (60 < found.length) ((found.map (·.number)).take 60) })))) ∧
   ∀ h : Hall, CollectionsOk h → (h.table.records.map (·.fields.number)).Pairwise (· < ·)) ∧
  ((∀ (s : State) (tag : Byte), s.takes .planning = true →
     exec (.calendarRead tag (.fields ())) s = .next (s.reply .planning 9 tag (some
       { result := .done
         body := .calendar { day := s.env.clock.day, second := s.env.clock.second } s.env.clock.status
           s.env.clock.setting.isSome s.hall.calendar.live
           (s.hall.calendar.entries.map fun x =>
             { entry := x, ended := seasonEnded s.env s.hall x.id
               names := (s.hall.table.records.filter fun r => r.fields.season == x.id ||
                 allRows.any fun t => (s.hall.slotOf t).any fun p =>
                   p.number == r.fields.number && p.season == x.id).length }) }))) ∧
   ∀ (s : State) (tag : Byte) (position : Nat), s.takes .planning = true →
     exec (.readCues tag (.fields position)) s = .next (s.reply .planning 11 tag (some
       (if 191 < position then Answer.code .format
        else
          { result := .done
            body := .cues s.hall.lookahead.cues.length s.hall.lookahead.short s.env.config.hall.horizon s.env.clock.day
              ((s.hall.lookahead.cues.drop position).take 24) }))))

/-- READ ANTENNA answers the antenna's record with its claim, the route row of its column and the displayed azimuth, and changes nothing but the answer (R88). -/
def Obligations.ReadAntennaAnswer : Prop :=
  ∀ (s : State) (link : Link) (tag : Byte) (a : Nat), s.takes link = true →
    exec (.readAntenna link tag (.fields a)) s = .next (s.reply link 13 tag (some
      (if 24 < a then Answer.code .format
       else
         { result := .done
           body := .antenna a (s.env.antConfig a) (s.hall.antenna a) (s.hall.claim a) (colRoute s.hall a)
             (match (s.hall.antenna a).setting with
              | none => none
              | some x =>
                if a = 24 then none
                else some (((((s.env.antConfig a).bearing : Nat) : Int) + 5 * x.slew +
                  (match x.dir with | .forward => 0 | .reverse => 180)) % 360).toNat) })))

/-- READ TRANSMITTER answers the transmitter's record, with the seconds left to an outstanding tune's limit, or its whole limit while it is held unsent, to within the one second the book leaves to rounding, and without them when no tune is outstanding (R111, R192; the rounding and the model's counter of free values are its own choice, log 16, the limit of an unsent tune log 31's); READ ROUTES the routes, blocks, claims, slots, queue and, from the given crosspoint on, every crosspoint that is not OPEN or whose reading differs, as many as the response of at most 250 characters holds beside the queue (R67, R92, R193). Neither changes anything else but the answer. -/
def Obligations.TransmitterAndRoutesRead : Prop :=
  (∀ (s : State) (link : Link) (tag : Byte) (k : Nat), s.takes link = true →
     ∃ left : Option Nat,
       exec (.readTransmitter link tag (.fields k)) s = .next (State.reply
         { s with links := { s.links with draws := s.links.draws + 1 } } link 12 tag (some
           (if 11 < k then Answer.code .format
            else
              { result := .done
                body := .transmitter k (s.env.txConfig k) (s.hall.tx k) (s.env.indications k) left
                  ((s.hall.carriage k).map fun c => (c.booking, c.phase)) (s.hall.monitor k).tripCount
                  (s.hall.monitor k).displayed }))) ∧
       ((s.hall.tx k).tune = none → left = none) ∧
       ∀ u, (s.hall.tx k).tune = some u →
         let rest := match u.ends with
           | some limit => limit - s.env.timebase
           | none => u.limit
         left = some (rest / 1000) ∨ left = some ((rest + 999) / 1000)) ∧
  ((∀ (s : State) (link : Link) (tag : Byte) (first : Nat), s.takes link = true →
     exec (.readRoutes link tag (.fields first)) s = .next (s.reply link 14 tag (some
       (if 299 < first then Answer.code .format
        else
          { result := .done
            body := .routes
              (allRows.map fun t => { route := rowRoute s.hall t, blocked := rowBlocked s.hall t
                                      moving := (movingCols s.hall t).head? })
              (allCols.map fun a => { route := colRoute s.hall a, blocked := colBlocked s.hall a
                                      claim := s.hall.claim a })
              ((List.range 4).map fun i => (read s.hall.matrix.slots i).map (·.move)) s.hall.matrix.queue
              (crosspointRoom s.hall.matrix.queue.length < (listedFrom s.env s.hall first).length)
              ((listedFrom s.env s.hall first).take (crosspointRoom s.hall.matrix.queue.length)) })))) ∧
   (∀ (e : Env) (h : Hall) (first : Nat) (x : XpView), x ∈ listedFrom e h first ↔
     ∃ r c, r < 12 ∧ c < 25 ∧ first ≤ r * 25 + c ∧
       x = { number := r * 25 + c, state := h.xp r c, reading := e.reading r c } ∧
       ¬ (h.xp r c = .opened ∧ e.reading r c = .opened)) ∧
   (∀ n : Nat, crosspointRoom n = (250 - (3 + 87 + 3 * n + 2)) / 3) ∧
   ∀ (h : Hall) (t a : Nat), t < 12 → a < 25 →
     (rowRoute h t = some a ↔ ∀ c, c < 25 → (h.xp t c = .closed ↔ c = a)) ∧
     (colRoute h a = some t ↔ ∀ r, r < 12 → (h.xp r a = .closed ↔ r = t)) ∧
     (rowBlocked h t = true ↔ ∃ c, c < 25 ∧ h.xp t c = .stuck) ∧
     (colBlocked h a = true ↔ ∃ r, r < 12 ∧ h.xp r a = .stuck))

/-! ## The clock and the calendar (02) -/

/-- A second pulse is ignored in UNSET and within half a second of the last accepted; in LOCKED it advances the clock by the time since then, rounded half up; in HOLDOVER it brings LOCKED and takes the place of an internal advance made within half a second (R27, R29, R30). The pulse watch at 2 s posts HOLDOVER, and from LOCKED advances the clock by 2 s into HOLDOVER; an internal advance comes one second after the last, never in LOCKED (R28, R30). The timebase is brought to the time of the event (the model's choice, log 3). A pulse is judged alone, also at a time past the limit of the running watch or past internal advances not yet taken: no HOLDOVER is posted for it (the model's choice, log 41). -/
def Obligations.PulsesAndInternalAdvances : Prop :=
  ((∀ (c : Clock) (t : Nat),
     c.pulse t =
       (if c.status = .unset then (c, .nothing)
        else if c.status = .locked then
          if 2 * (t - c.lastPulse) < 1000 then (c, .nothing)
          else Clock.advance { c with lastPulse := t, lastAdvance := t, watch := some (t + 2000) }
            (roundHalfUp (t - c.lastPulse) 1000)
        else if 2 * (t - c.lastAdvance) < 1000 then
          Clock.advance { c with status := .locked, lastPulse := t, watch := some (t + 2000) } 0
        else Clock.advance { c with status := .locked, lastPulse := t, lastAdvance := t, watch := some (t + 2000) } 1)) ∧
   ∀ (s : State) (time : Nat), s.power = .running →
     let t := max s.env.timebase time
     let e := { s.env with timebase := t, clock := (s.env.clock.pulse t).1 }
     exec (.secondPulse time) s =
       .next (State.act { s with env := e } (handOn e s.env.clock (s.env.clock.pulse t).2))) ∧
  ((∀ (s : State) (limit : Nat), s.power = .running → s.env.clock.watch = some limit →
     let c := s.env.clock
     let moved : Clock × Handing :=
       if c.status = .locked then
         Clock.advance { c with status := .holdover, watch := none, lastAdvance := limit } 2
       else ({ c with watch := none }, .nothing)
     let e := { s.env with timebase := max s.env.timebase limit, clock := moved.1 }
     exec .pulseWatchExpiry s = .next (State.act { s with env := e } fun h =>
       handOn e c moved.2 (post e .holdover 0 h))) ∧
   (∀ s : State, s.env.clock.watch = none → exec .pulseWatchExpiry s = .next s) ∧
   (∀ s : State, s.power = .running → s.env.clock.status ≠ .locked →
     let c := s.env.clock
     let moved := Clock.advance { c with lastAdvance := c.lastAdvance + 1000 } 1
     let e := { s.env with timebase := max s.env.timebase (c.lastAdvance + 1000), clock := moved.1 }
     exec .internalAdvance s = .next (State.act { s with env := e } (handOn e c moved.2))) ∧
   ∀ s : State, s.env.clock.status = .locked → exec .internalAdvance s = .next s)

/-- A pending setting is loaded at the next advance of n seconds: the clock takes it plus n - 1 seconds; a step of at most one second is an alignment, a greater one a clock step of its magnitude, and a setting loaded in UNSET is a first setting that brings HOLDOVER (R25, R32, R33). That the step of a two-second advance is that of the value the clock takes, the setting plus one second, is the model's reading of R33 (log 70). -/
def Obligations.SettingLoadedAtAnAdvance : Prop :=
  ∀ (c : Clock) (n : Nat),
    let old := c.day * 86400 + c.second
    let last := 65535 * 86400 + 86399
    let predicted := min (old + n) last
    match c.setting with
    | none =>
      Clock.advance c n =
        if n = 0 then (c, .nothing)
        else ({ c with day := predicted / 86400, second := predicted % 86400 }, .ordinary)
    | some v =>
      let taken := min (v.day * 86400 + v.second + (n - 1)) last
      let loaded : Clock :=
        { c with day := taken / 86400, second := taken % 86400, setting := none, everSet := true }
      let step := ((taken : Int) - (predicted : Int)).natAbs
      Clock.advance c n =
        if c.status = .unset then
          ({ loaded with status := .holdover, watch := some (c.lastAdvance + 2000) }, .first)
        else if step ≤ 1 then (loaded, .ordinary)
        else (loaded, .step (min step 65535))

/-- How an advance is handed on. An ordinary one takes the due cues, makes the minute scan at a minute boundary, then the tests of a new day; a clock step is posted and everything rescanned before its due cues are taken, a step to an earlier value leaving the cues of the list in their places; a first setting makes the tests of a new day and rescans (R31 to R35; the order is the model's choice, log 5, and so is what a backward step leaves to later refreshes, log 38). A minute scan, which outside the survey and with a clock that is set and a hall not in CONFIGURING alone does anything, drops the readmission and resume entries that are over and refreshes the transmitters with an occurrence to admit that has no cues in the list (R49, R168); that it does nothing during the survey is the model's reading, which R49 does not say (log 7). On a new day the live season is found anew, SEASON_TURNED is posted with its id and everything rescanned when it is another, and on a later day the bookings whose season has ended and that no carriage serves are RETIRED, posted with their number, and every ended season that no booking names leaves the calendar, the live season as it was (R24, R31, R37, R40); that a carriage serves the record that has its booking's number, one entered anew too, is the model's choice (log 63). While the clock is UNSET a new day finds the live season too, but no season turns and no day has passed for the table and the calendar (R30, R37; the model's reading, log 39). -/
def Obligations.AdvanceHandedOn : Prop :=
  (∀ (e : Env) (h : Hall),
     rescanBack e h = remake e (fun _ => .lacking) h ∧ rescan e h = scan e (List.range 12) h ∧
     let lasting := fun number day : Nat => (h.booking number).any fun b => decide (e.now < endOn b.fields day)
     let kept := { h with
       lookahead := { h.lookahead with readmit := h.lookahead.readmit.filter fun o => lasting o.booking o.day }
       resume := h.resume.filter fun r => lasting r.booking r.day }
     let lacking := (List.range 12).filter fun t => (admitted e kept t).any fun g =>
       !kept.lookahead.cues.any fun c => c.booking == g.booking && c.day == g.day
     minuteScan e h =
       if e.clock.status = .unset ∨ e.mode = .configuring ∨ h.matrix.survey ≠ none then h
       else if lacking = [] then kept else scan e lacking kept) ∧
  (∀ (e : Env) (old : Clock) (h : Hall),
     handOn e old .nothing h = h ∧
     handOn e old .ordinary h =
       (let due := settle e h
        let scanned :=
          if (e.clock.day * 86400 + e.clock.second) % 60 = 0 ∨
              (old.day * 86400 + old.second) / 60 < (e.clock.day * 86400 + e.clock.second) / 60 then
            settle e (minuteScan e due)
          else due
        dayTests e old.day (rescan e) scanned) ∧
     (∀ m,
       let again := if e.clock.day * 86400 + e.clock.second ≤ old.day * 86400 + old.second then rescanBack e else rescan e
       handOn e old (.step m) h = dayTests e old.day again (settle e (again (post e .clockStep m h)))) ∧
     handOn e old .first h = rescan e (calendarTest e (retire e h.table.records (findLive e h)))) ∧
  (∀ (e : Env) (oldDay : Nat) (again : Hall → Hall) (h : Hall),
     (e.clock.day = oldDay → dayTests e oldDay again h = h) ∧
     (e.clock.day ≠ oldDay →
       let found := findLive e h
       let turned :=
         if found.calendar.live = h.calendar.live then found
         else again (post e .seasonTurned (found.calendar.live.getD 0) found)
       dayTests e oldDay again h =
         if e.clock.status = .unset then found
         else if oldDay < e.clock.day then calendarTest e (retire e turned.table.records turned)
         else turned)) ∧
  (∀ (e : Env) (h : Hall),
     findLive e h = { h with calendar := { h.calendar with live := liveOn h.calendar.entries e.clock.day } } ∧
     calendarTest e h = { h with calendar := { h.calendar with
       entries := h.calendar.entries.filter fun x => !(seasonEnded e h x.id && namesOf h x.id == 0) } }) ∧
  ∀ (e : Env) (h : Hall),
    let gone := h.table.records.filter fun r =>
      seasonEnded e h r.fields.season && !(List.range 12).any fun t => (h.carriage t).any (·.booking == r.fields.number)
    (gone = [] → retire e h.table.records h = h) ∧
    (gone ≠ [] →
      retire e h.table.records h = nearlyFullTest e (removeBookings e gone (post e .retired gone.length h)) ∧
      (retire e h.table.records h).table.records =
        h.table.records.filter (fun r => !gone.any (·.fields.number == r.fields.number)) ∧
      read (retire e h.table.records h).attention.planning EventKind.retired.bit = some gone.length ∧
      (retire e h.table.records h).calendar.live = h.calendar.live)

/-- SET CLOCK with a day and a second in range makes its value the pending setting and moves nothing else; a frame to address 0 does the same and is never answered, also when its body does not decode or its values are out of range, which leave every block as it stood (R32, R183). That a frame to address 0 is taken whatever the planning receiver hears, and leaves that receiver waiting for an address, is the model's choice (log 22). -/
def Obligations.SetClockMakesASettingPending : Prop :=
  (∀ (s : State) (tag : Byte) (v : ClockValue), s.takes .planning = true →
    exec (.setClock (.addressed tag) (.fields v)) s =
      if v.day ≤ 65535 ∧ v.second ≤ 86399 then
        answers { s with env := { s.env with clock := { s.env.clock with setting := some v } } } .planning 10 tag .done
      else answers s .planning 10 tag .format) ∧
  (∀ (s : State) (v : ClockValue),
    exec (.setClock .broadcast (.fields v)) s =
      if s.power = .running ∧ s.links.planning.outstanding = none ∧ v.day ≤ 65535 ∧ v.second ≤ 86399 then
        .next { s.setReceiver .planning .waiting with
          env := { s.env with clock := { s.env.clock with setting := some v } } }
      else .next (s.setReceiver .planning .waiting)) ∧
  ∀ s : State, exec (.setClock .broadcast .malformed) s = .next (s.setReceiver .planning .waiting)

/-- The live season of a day is that of the entry with the greatest first day that is the day or earlier (R36). CALENDAR ADD and CALENDAR REMOVE make their checks in order; an entry that passes is in the calendar, one removed is not, every other stays, the live season is found anew, also while the clock is UNSET, and everything is rescanned (R37, R38, R39). -/
def Obligations.CalendarChangesAndLiveSeason : Prop :=
  (∀ (entries : List SeasonEntry) (day : Nat), (entries.map (·.firstDay)).Pairwise (· < ·) →
     (∀ id, liveOn entries day = some id ↔
       ∃ x ∈ entries, x.id = id ∧ x.firstDay ≤ day ∧ ∀ y ∈ entries, y.firstDay ≤ day → y.firstDay ≤ x.firstDay) ∧
     (liveOn entries day = none ↔ ∀ x ∈ entries, day < x.firstDay)) ∧
  ((∀ (s : State) (tag : Byte) (x : SeasonEntry), s.takes .planning = true →
     exec (.calendarAdd tag (.fields x)) s =
       if x.id < 1 ∨ 255 < x.id ∨ 65535 < x.firstDay then answers s .planning 7 tag .format
       else if s.env.clock.status ≠ .unset ∧ x.firstDay ≤ s.env.clock.day then answers s .planning 7 tag .past
       else if ∃ y ∈ s.hall.calendar.entries, y.id = x.id ∨ y.firstDay = x.firstDay then
         answers s .planning 7 tag .exists
       else if 4 ≤ s.hall.calendar.entries.length then answers s .planning 7 tag .full
       else takes s .planning 7 tag fun h => changeCalendar s.env
         (insertBy (fun a b => decide (a.firstDay < b.firstDay)) x h.calendar.entries) h) ∧
   (∀ (s : State) (tag : Byte) (id : Nat), s.takes .planning = true →
     exec (.calendarRemove tag (.fields id)) s =
       if id < 1 ∨ 255 < id then answers s .planning 8 tag .format
       else if ∀ y ∈ s.hall.calendar.entries, y.id ≠ id then answers s .planning 8 tag .unknown
       else if namesOf s.hall id ≠ 0 then answers s .planning 8 tag .inUse
       else if s.env.clock.status ≠ .unset ∧ liveOn s.hall.calendar.entries s.env.clock.day = some id then
         answers s .planning 8 tag .past
       else takes s .planning 8 tag fun h =>
         changeCalendar s.env (h.calendar.entries.filter fun y => y.id != id) h) ∧
   (∀ (x y : SeasonEntry) (l : List SeasonEntry),
     y ∈ insertBy (fun a b => decide (a.firstDay < b.firstDay)) x l ↔ y = x ∨ y ∈ l) ∧
   ∀ (e : Env) (l : List SeasonEntry) (h : Hall),
     changeCalendar e l h = rescan e (findLive e { h with calendar := { h.calendar with entries := l } }) ∧
     (changeCalendar e l h).calendar =
       { entries := l, live := liveOn l e.clock.day } ∧
     changeCalendar e l h = { h with calendar := (changeCalendar e l h).calendar
                                     lookahead := (changeCalendar e l h).lookahead
                                     attention := (changeCalendar e l h).attention })

/-! ## The lookahead unit (03) -/

/-- The components of the lead: tune, switch and setting (R58, R59), each from the predecessor's frequency, antenna and setting, or with none from the transmitter's tuned frequency, its route and the antenna's setting, unknown while it changes (R57); the lead, before it is held at 900 s, is the margin and the greatest of the three (R60). A PREPARE is due at the start less the lead when the predecessor's end and the RF-down time leave room for it, else at that end, and never before now; its lateness is what then runs past the start (R61); a readmitted one is due now or at that end (R53). -/
def Obligations.LeadAndPreparePlacement : Prop :=
  ((∀ (c : TxConfig) (tuned : Option Nat) (f : Nat),
     tuneTime c tuned f =
       match tuned with
       | none => c.tuneBase + ceilDiv (c.tuneRate * (c.maxFreq - c.minFreq)) 10000
       | some g =>
         if g = f then 0 else c.tuneBase + ceilDiv (c.tuneRate * ((f : Int) - (g : Int)).natAbs) 10000) ∧
   (∀ (travel target : Nat) (route : Option Nat),
     switchTime travel route target = if route = some target then 0 else if route = none then travel else 2 * travel) ∧
   ∀ (c : AntConfig) (predicted : Option Setting) (wanted : Setting),
     settingTime c predicted wanted = if predicted = some wanted then 0 else c.settingTime) ∧
  (∀ (e : Env) (h : Hall) (t : Nat) (pred : Option Item) (i : Item),
     let tuned := match pred with
       | some p => some p.frequency
       | none => (h.tx t).tuned
     let route := match pred with
       | some p => some p.antenna
       | none => rowRoute h t
     let held := if (h.antenna i.antenna).change = none then (h.antenna i.antenna).setting else none
     let predicted := match pred with
       | some p => if p.antenna = i.antenna then some p.setting else held
       | none => held
     rawLead e h t pred i = e.config.hall.margin +
       max (tuneTime (e.txConfig t) tuned i.frequency)
         (max (switchTime e.config.hall.travel route i.antenna)
           (settingTime (e.antConfig i.antenna) predicted i.setting))) ∧
  (∀ ends r r' lead start now : Nat,
     let room := ends + r + lead ≤ start
     let due : Int := if room then (start : Int) - lead else ends
     let late : Int := if room then 0 else (ends : Int) + r + lead - start
     (((placePrepare ends r r' lead start now).1 : Nat) : Int) = (if due < (now : Int) then (now : Int) else due) ∧
     (((placePrepare ends r r' lead start now).2 : Nat) : Int) =
       (if due < (now : Int) then max 0 ((now : Int) + r' + lead - start) else late) ∧
     (placeReadmitted ends r r' lead start now).1 = max now ends ∧
     (((placeReadmitted ends r r' lead start now).2 : Nat) : Int) =
       if now < ends then max 0 ((ends : Int) + r + lead - start) else max 0 ((now : Int) + r' + lead - start))

/-- The cues made for an occurrence: a carry START and a STOP for a carry-over; else a PREPARE that holds the lead, at most 900 s, with the clamp mark, a START at the start and a STOP at the end (R43, R60, R61, R63). The PREPARE's due time and lateness are those of R61, or of R53 for a readmitted occurrence, from the predecessor's end, the transmitter's RF-down time, which counts from now only while RF is present, the lead, the start and now; the lateness is held at 65 535. -/
def Obligations.CuesOfAnOccurrence : Prop :=
  ∀ (e : Env) (h : Hall) (t : Nat) (pred : Option Item) (i : Item) (said : Said),
    (carriesOver pred i = true ↔ i.readmit = false ∧ ∃ p, pred = some p ∧ i.start = p.stop ∧ i.antenna = p.antenna ∧
      i.setting = p.setting ∧ i.frequency = p.frequency) ∧
    ((makeGroup e h t pred i said).cues.map fun c => (c.kind, c.carry)) =
      (if carriesOver pred i then [(.start, true), (.stop, false)]
       else [(.prepare, false), (.start, false), (.stop, false)]) ∧
    ∀ c ∈ (makeGroup e h t pred i said).cues,
      c.transmitter = t ∧ c.booking = i.booking ∧ c.day = i.day ∧ c.said = said ∧
      (c.kind = .start → c.due = i.start) ∧ (c.kind = .stop → c.due = i.stop) ∧
      (c.kind = .prepare →
        let lead := min (rawLead e h t pred i) 900
        let down := (e.txConfig t).rfDown
        let downNow := if e.rfPresent t then down else 0
        let ends := (pred.map (·.stop)).getD 0
        let placed := if i.readmit then placeReadmitted ends down downNow lead i.start e.now
          else placePrepare ends down downNow lead i.start e.now
        c.due = placed.1 ∧ e.now ≤ c.due ∧ c.lead = lead ∧ (c.clamped = true ↔ 900 < rawLead e h t pred i) ∧
        c.lateness = min placed.2 65535)

/-- During the survey a scan does nothing (R179; log 7). After another, of one transmitter, of several or at a backward clock step, the cue list is in order of due time, then STOP, PREPARE, START, then transmitter, booking, day, and holds at most 192 cues when it held no more before; a scan changes the cue list, the shortage flag and the postings alone (R44, R46, R50). An occurrence is taken once its PREPARE or carry START is no longer in the list (R47). A scan keeps the cues of taken occurrences and, of a scanned transmitter, those whose first cue is due already, and makes the rest again along the prediction sequence: of ACTIVE bookings the occurrences of days that R3 carries or that are readmitted, not yet over, whose first cue lies within the horizon (R45, R50, R56). The sequence holds the carriage's occurrence, the waiting entries and the occurrences not yet taken, by start and booking number. The occurrences found are admitted by their first cues while all their cues fit beside those kept; the first that does not fit and all after it are left out, the shortage flag is set exactly when one is, and CUES_SHORT posted with the number of cues left out when it comes to be set (R46). At a backward clock step every cue of the list is kept, and what the list lacks takes the room left (R35). With each new PREPARE placed LATE is posted when its lateness is above 0, then LEAD_CLAMPED when it is clamped, unless the cues' reported field has it, which it joins in all cues of the occurrence (R50, R62). A readmission request for an occurrence that is not over puts it in the readmission list, once for its booking; another changes nothing (R53). The model's choices: the survey (log 7), waiting entries in the sequence and an occurrence in it once (log 9), the order of the postings (log 18), what a backward step keeps and admits (log 38), what is found while the flag is set (log 40), a due cue no longer admitted leaving, one whose end alone has passed staying (log 42). -/
def Obligations.CueListAndReadmissions : Prop :=
  ((∀ a b : Cue, a.before b = true ↔
     a.due < b.due ∨ (a.due = b.due ∧ (a.kind.ctorIdx < b.kind.ctorIdx ∨ (a.kind = b.kind ∧
       (a.transmitter < b.transmitter ∨ (a.transmitter = b.transmitter ∧
         (a.booking < b.booking ∨ (a.booking = b.booking ∧ a.day < b.day)))))))) ∧
   (CueKind.stop.ctorIdx < CueKind.prepare.ctorIdx ∧ CueKind.prepare.ctorIdx < CueKind.start.ctorIdx) ∧
   (∀ (e : Env) (ts : List Nat) (t : Nat) (h : Hall),
     scan e ts h = remake e (fun t => if ts.contains t then .notDue else .nothing) h ∧ refresh e t h = scan e [t] h) ∧
   ∀ (e : Env) (how : Nat → Remake) (h : Hall),
     (h.matrix.survey ≠ none → remake e how h = h) ∧
     (h.matrix.survey = none → (remake e how h).lookahead.cues.Pairwise fun a b => b.before a = false) ∧
     (remake e how h).lookahead.readmit = h.lookahead.readmit ∧
     remake e how h = { h with lookahead := (remake e how h).lookahead, attention := (remake e how h).attention }) ∧
  ((∀ (room : Nat) (l : List Group),
      (fit room l).1 ++ (fit room l).2 = l ∧ ((fit room l).1.map (·.cues.length)).sum ≤ room ∧
      ∀ g rest, (fit room l).2 = g :: rest → room < ((fit room l).1.map (·.cues.length)).sum + g.cues.length) ∧
   ∀ (e : Env) (how : Nat → Remake) (h : Hall), h.matrix.survey = none →
     let cues := currentCues h
     let kept := cues.filter fun c => isTaken cues c.booking c.day || decide (how c.transmitter = .lacking)
     let found := (List.range 12).flatMap fun t => groupsFor e h cues (how t) t
     let fits := fit (192 - kept.length) (sortBy Group.before found)
     let plain := fun c : Cue => { c with said := { late := false, clamped := false } }
     let placed := h.mapLookahead fun l => { l with cues := sortBy Cue.before (kept ++ fits.1.flatMap (·.cues)) }
     let flagged :=
       if fits.2 = [] then placed.mapLookahead fun l => { l with short := false }
       else if h.lookahead.short = true then placed
       else post e .cuesShort (fits.2.map (·.cues.length)).sum (placed.mapLookahead fun l => { l with short := true })
     let made := found.filter fun g => g.made && fits.1.any fun x => x.booking == g.booking && x.day == g.day
     let prepares := made.flatMap fun g => g.cues.filter fun c => c.kind == .prepare
     remake e how h = prepares.foldl (fun h c => postPrepare e c h) flagged ∧
     ((remake e how h).lookahead.cues.map plain).Perm ((kept ++ fits.1.flatMap (·.cues)).map plain) ∧
     ((∀ t, how t = .lacking) → ∀ c ∈ cues, plain c ∈ (remake e how h).lookahead.cues.map plain) ∧
     (h.lookahead.cues.length ≤ 192 → (remake e how h).lookahead.cues.length ≤ 192) ∧
     ((remake e how h).lookahead.short = true ↔ fits.2 ≠ []) ∧
     read (remake e how h).attention.planning EventKind.cuesShort.bit =
       (if fits.2 ≠ [] ∧ h.lookahead.short = false then some (fits.2.map (·.cues.length)).sum
        else read h.attention.planning EventKind.cuesShort.bit)) ∧
  (∀ (e : Env) (c : Cue) (h : Hall),
     let late := 0 < c.lateness ∧ c.said.late = false
     let clamped := c.clamped = true ∧ c.said.clamped = false
     let one := if late then post e .late c.booking h else h
     let both := if clamped then post e .leadClamped c.booking one else one
     postPrepare e c h = both.mapLookahead fun l => { l with cues := l.cues.map fun x =>
       if x.booking = c.booking ∧ x.day = c.day then
         { x with said := { late := x.said.late || decide late, clamped := x.said.clamped || decide clamped } }
       else x }) ∧
  ((∀ (cues : List Cue) (number day : Nat),
      isTaken cues number day = true ↔
        ∀ c ∈ cues, c.booking = number → c.day = day → c.kind ≠ .prepare ∧ c.carry = false) ∧
   (∀ (h : Hall) (c : Cue),
      c ∈ currentCues h ↔ ∃ x ∈ h.lookahead.cues, ∃ b, h.booking x.booking = some b ∧
        c = { x with transmitter := b.fields.transmitter }) ∧
   (∀ (cues : List Cue) (g : Group),
      (g ∈ groupsOf cues ↔ (∃ c ∈ cues, c.booking = g.booking ∧ c.day = g.day) ∧ g.made = false ∧
        g.cues = cues.filter fun c => c.booking == g.booking && c.day == g.day) ∧
      ((groupsOf cues).map fun g => (g.booking, g.day)).Nodup) ∧
   (∀ (e : Env) (h : Hall) (t : Nat) (g : Group),
      (g.stands e h t = true ↔ g.firstDue ≤ e.now ∧
        ∃ b, h.booking g.booking = some b ∧ admissible e h t b g.day = true) ∧
      ∀ c rest, g.cues = c :: rest → c.kind = .prepare ∨ c.carry = true → g.firstDue = c.due) ∧
   ∀ (e : Env) (h : Hall) (cues : List Cue) (how : Remake) (t : Nat),
      groupsFor e h cues how t =
        (let own := cues.filter fun c => c.transmitter == t
         let taken := groupsOf (own.filter fun c => isTaken cues c.booking c.day)
         let old := groupsOf (own.filter fun c => !isTaken cues c.booking c.day)
         let stand := if how = .notDue then old.filter fun g => g.stands e h t else old
         let made := (admitted e h t).filter fun g =>
           !(stand ++ taken).any fun x => x.booking == g.booking && x.day == g.day
         match how with
         | .nothing => if h.lookahead.short = true then stand ++ made else stand
         | .notDue => stand ++ made
         | .lacking => made)) ∧
  ((∀ (e : Env) (h : Hall) (t : Nat) (b : Booking) (day : Nat),
      admissible e h t b day = true ↔
        e.clock.status ≠ .unset ∧ e.mode ≠ .configuring ∧ b.state = .active ∧ b.fields.transmitter = t ∧ day ≤ 65535 ∧
        ((carriesDay h.calendar.entries b.fields day = true ∧ ∀ l, b.lastRun = some l → l < day) ∨
          ∃ o ∈ h.lookahead.readmit, o.booking = b.fields.number ∧ o.day = day)) ∧
   (∀ (b : Offered) (c : Carriage) (h : Hall) (number day : Nat) (fresh again : Bool),
      startOn b day = day * 86400 + b.start * 60 ∧ endOn b day = day * 86400 + b.start * 60 + b.duration * 60 ∧
      itemOf b day fresh again =
        { booking := b.number, day := day, start := startOn b day, stop := endOn b day, frequency := b.frequency
          antenna := b.antenna, setting := b.setting, fresh := fresh, readmit := again } ∧
      carriageItem c =
        { booking := c.booking, day := c.day, start := c.start, stop := c.stop, frequency := c.frequency
          antenna := c.antenna, setting := c.setting, fresh := false, readmit := false } ∧
      (isReadmitted h number day = true ↔ ∃ o ∈ h.lookahead.readmit, o.booking = number ∧ o.day = day)) ∧
   (∀ (e : Env) (h : Hall) (t : Nat) (i : Item),
      i ∈ freshItems e h t ↔ ∃ b ∈ h.table.records, ∃ d,
        (d + 1 = e.clock.day ∨ d = e.clock.day ∨ d = e.clock.day + 1 ∨
          ∃ o ∈ h.lookahead.readmit, o.booking = b.fields.number ∧ o.day = d) ∧
        admissible e h t b d = true ∧ e.now < endOn b.fields d ∧
        i = itemOf b.fields d true (isReadmitted h b.fields.number d)) ∧
   (∀ (e : Env) (h : Hall) (t : Nat),
      let fresh := freshItems e h t
      let apart := fun i : Item => ¬ ∃ f ∈ fresh, f.booking = i.booking ∧ f.day = i.day
      let before := fun a b : Item => decide (a.start < b.start ∨ (a.start = b.start ∧ a.booking < b.booking))
      let running := ((h.carriage t).toList.map carriageItem).filter fun i => decide (apart i)
      let waiting := ((h.waitingList t).filterMap fun w => (h.booking w.booking).map fun b =>
        itemOf b.fields w.day false false).filter fun i => decide (apart i)
      Machine.sequence e h t =
        (if waiting = [] then sortBy before (running ++ fresh) else running ++ waiting ++ sortBy before fresh) ∧
      ∀ l, (sortBy before l).Perm l ∧
        (sortBy before l).Pairwise fun a b => a.start < b.start ∨ (a.start = b.start ∧ a.booking ≤ b.booking)) ∧
   ∀ (e : Env) (h : Hall) (t : Nat) (pred : Option Item) (i : Item) (rest : List Item),
      walk e h t pred [] = [] ∧
      walk e h t pred (i :: rest) =
        (if i.fresh = true then
          makeGroup e h t pred i
            (match h.lookahead.cues.find? (fun c => c.booking == i.booking && c.day == i.day) with
             | some c => c.said
             | none => { late := false, clamped := false }) :: walk e h t (some i) rest
         else walk e h t (some i) rest) ∧
      admitted e h t = (walk e h t none (Machine.sequence e h t)).filter fun g =>
        decide (g.firstDue ≤ e.now + e.config.hall.horizon * 60)) ∧
  (∀ (e : Env) (number day : Nat) (b : Booking) (h : Hall), h.booking number = some b →
     (endOn b.fields day ≤ e.now → readmit e number day h = h) ∧
     (e.now < endOn b.fields day →
       isReadmitted (readmit e number day h) number day = true ∧
       (isReadmitted h number day = false →
         (readmit e number day h).lookahead.readmit =
           h.lookahead.readmit.filter (fun o => o.booking != number) ++ [{ booking := number, day := day }]) ∧
       (isReadmitted h number day = true → (readmit e number day h).lookahead.readmit = h.lookahead.readmit)))

/-! ## The antenna matrix (04, 09) -/

/-- A contact report outside the survey sets the reading and is taken by the crosspoint's state as Table 15 gives: a move ends where it was to end, a settled crosspoint that reports another place is a contradiction, everything else changes no state (R66, R68). A move that ends OPEN or CLOSED leaves its crosspoint so and its slot free (R68). After an OPEN every route that waited for it goes on, and with no open left its close is asked for, or the route is done when its crosspoint is CLOSED already or none was asked for (R78). After a CLOSED the route whose close it was is done and told to the carriage, a local route to no one (R78, R80), and a safety open held against the close is asked for (R70). A contradiction leaves the crosspoint STUCK, posted, its column LOCK_PENDING where it was LOCKED, and RF enable withdrawn from its row and from the row of its column's route: whichever of the two has RF enable asserted or reports RF present is asked for RF OFF and its carriage told that it is cut, before the moves, the requests and the carriages of row and column are dealt with as for a move that sticks (R69, R74). That the routes and the contacts concerned are gone through by ascending number, which decides the order of closes in the drive queue, is the model's choice (log 62), and that a route whose crosspoint was closing already is done when that close ends is its reading of R70 and R78 (log 11). -/
def Obligations.ContactReportsAndContradictions : Prop :=
  ((∀ (s : State) (r c : Nat) (reading : Reading), s.power = .running → s.hall.matrix.survey = none →
     r < 12 → c < 25 →
       let e := s.env.withReading r c reading
       exec (.contactReport r c reading) s = .next (State.act { s with env := e } fun h =>
         if (h.xp r c = .opened ∧ reading ≠ .opened) ∨ (h.xp r c = .closed ∧ reading ≠ .closed) then
           contradiction e r c h
         else if h.xp r c = .closing ∧ reading = .closed then moveClosed r c h
         else if h.xp r c = .opening ∧ reading = .opened then moveOpened r c h
         else h)) ∧
   (∀ (e : Env) (r c : Nat) (reading : Reading), r < 12 → c < 25 →
     (e.withReading r c reading).reading r c = reading ∧
     ∀ r' c', ¬ (r' = r ∧ c' = c) → (e.withReading r c reading).reading r' c' = e.reading r' c') ∧
   ∀ (s : State) (r c : Nat) (reading : Reading), 12 ≤ r ∨ 25 ≤ c → exec (.contactReport r c reading) s = .next s) ∧
  ((∀ (r c : Nat) (h : Hall),
      moveOpened r c h =
        (List.range 12).foldl (fun h t => routeSawOpen r c t h) (freeSlot r c (h.setXp r c .opened)) ∧
      (let freed := freeSlot r c (h.setXp r c .closed)
       let left := freed.mapMatrix fun m => { m with heldOpens := m.heldOpens.filter fun x => !(x.row == r && x.col == c) }
       let told := match h.route r with
         | some q =>
           if q.placed = true ∧ q.column = some c then
             if q.isLocal then left.setRoute r none else raise (.routeDone r c) (left.setRoute r none)
           else left
         | none => left
       moveClosed r c h =
         (h.matrix.heldOpens.filter fun x => x.row == r && x.col == c).foldl (fun h m => askMove m h) told) ∧
      (∀ i, i < 4 → read (freeSlot r c h).matrix.slots i =
        (if (read h.matrix.slots i).any (fun x => x.move.row == r && x.move.col == c) = true then none
         else read h.matrix.slots i)) ∧
      freeSlot r c h = { h with matrix := { h.matrix with slots := (freeSlot r c h).matrix.slots } }) ∧
   (∀ (r c : Nat) (h : Hall), r < 12 → c < 25 →
      (moveOpened r c h).xp r c = .opened ∧ (moveClosed r c h).xp r c = .closed ∧
      (∀ r' c', ¬ (r' = r ∧ c' = c) →
        (moveOpened r c h).xp r' c' = h.xp r' c' ∧ (moveClosed r c h).xp r' c' = h.xp r' c') ∧
      ∀ i x, i < 4 → read (moveOpened r c h).matrix.slots i = some x ∨ read (moveClosed r c h).matrix.slots i = some x →
        ¬ (x.move.row = r ∧ x.move.col = c)) ∧
   ∀ (t : Nat) (h : Hall),
     (h.route t = none → routeStep t h = h ∧ ∀ r c, routeSawOpen r c t h = h) ∧
     ∀ q, h.route t = some q →
       routeStep t h =
         (if q.opens ≠ [] ∨ q.placed = true then h
          else match q.column with
            | none => h.setRoute t none
            | some a =>
              if h.xp t a = .closed then
                if q.isLocal then h.setRoute t none else raise (.routeDone t a) (h.setRoute t none)
              else askMove
                { row := t, col := a, close := true, safety := false
                  askers := [if q.isLocal then .localRoute t else .route t] }
                (h.setRoute t (some { q with placed := true }))) ∧
       ∀ r c, routeSawOpen r c t h =
         if ∃ x ∈ q.opens, x.row = r ∧ x.col = c then
           routeStep t (h.setRoute t (some { q with opens := q.opens.filter fun x => !(x.row == r && x.col == c) }))
         else h) ∧
  (∀ (e : Env) (r c t : Nat) (h : Hall),
     let stuck := (setStuck e r c h).setAntenna c fun x => { x with lock := if x.lock = .locked then .pending else x.lock }
     let row := takeDown e r stuck
     contradiction e r c h =
       becameStuck r c
         (match colRoute stuck c with
          | some u => takeDown e u row
          | none => row) ∧
     takeDown e t h =
       if (h.tx t).rfEnable = true ∨ e.rfPresent t = true then raise (.cut t) (rfOff e t h) else h) ∧
  (∀ (e : Env) (r c : Nat) (h : Hall), r < 12 → c < 25 →
     (contradiction e r c h).xp r c = .stuck ∧
     (∀ r' c', ¬ (r' = r ∧ c' = c) → (contradiction e r c h).xp r' c' = h.xp r' c') ∧
     ((contradiction e r c h).tx r).rfEnable = false ∧
     ((contradiction e r c h).antenna c).lock =
       (if (h.antenna c).lock = .locked then .pending else (h.antenna c).lock) ∧
     ∀ t, colRoute (setStuck e r c h) c = some t → ((contradiction e r c h).tx t).rfEnable = false)

/-- A move's timer at its limit sends the halt order, frees the slot and leaves the crosspoint STUCK, posted with its number; a crosspoint that is not moving is left as it is (R73). With a crosspoint STUCK its own queued moves and every queued close of its row and column leave, also those that wait for room; the route requests of its row and into its column fail, their other queued moves withdrawn but for those another asked for too, and a carriage is told which it was; the carriage of its row and the one that claims its column are told (R74, R75, R79). That the expiry brings the timebase up to the timer's limit is the model's choice (log 3), and so are the order by ascending transmitter in which the failures are told (log 62), the moves that wait for room beyond the drive queue (log 12), and that a local route fails as a whole, its queued opens removed (log 65). -/
def Obligations.MoveTimeoutSticks : Prop :=
  (∀ (s : State) (r c limit : Nat), s.power = .running → moveLimit r c s.hall = some limit →
    let e := { s.env with timebase := max s.env.timebase limit }
    exec (.moveTimeout r c) s = .next (State.act { s with env := e } fun h =>
      if h.xp r c = .closing ∨ h.xp r c = .opening then
        becameStuck r c (setStuck e r c (send (.halt r c) (freeSlot r c h)))
      else h)) ∧
  (∀ (s : State) (r c : Nat), moveLimit r c s.hall = none → exec (.moveTimeout r c) s = .next s) ∧
  (∀ (e : Env) (r c : Nat) (h : Hall), r < 12 → c < 25 →
    (setStuck e r c h).xp r c = .stuck ∧
    (∀ r' c', ¬ (r' = r ∧ c' = c) → (setStuck e r c h).xp r' c' = h.xp r' c') ∧
    (setStuck e r c h).attention = h.attention.post e.mask .stuck (r * 25 + c)) ∧
  (∀ (r c : Nat) (h : Hall),
    let stays := fun x : Move => !(x.row == r && x.col == c) && !(x.close && (x.row == r || x.col == c))
    let cleared := h.mapMatrix fun m =>
      { m with queue := m.queue.filter stays, overflow := m.overflow.filter stays
               heldOpens := m.heldOpens.filter fun x => !(x.row == r && x.col == c) }
    let failed := (List.range 12).foldl (fun h t => failRoute r c t h) cleared
    let told := if (h.carriage r).isSome = true then raise (.rowBlocked r) failed else failed
    becameStuck r c h =
      (match h.claim c with
       | some t => if t = r then told else raise (.columnBlocked t c) told
       | none => told) ∧
    ∀ r' c', (becameStuck r c h).xp r' c' = h.xp r' c') ∧
  (∀ (r c t : Nat) (h : Hall),
    (h.route t = none → failRoute r c t h = h) ∧
    ∀ q, h.route t = some q → failRoute r c t h =
      if t = r ∨ q.column = some c then
        match q.column with
        | some a =>
          if q.isLocal then withdrawRoute t h
          else raise (.routeFailed t a (if t = r then .rowBlocked else .columnBlocked)) (withdrawRoute t h)
        | none => withdrawRoute t h
      else h) ∧
  (∀ (t : Nat) (h : Hall),
    let drop := fun l : List Move => dropAsker (.localRoute t) (dropAsker (.route t) l)
    withdrawRoute t h =
      (h.mapMatrix fun m => { m with queue := drop m.queue, overflow := drop m.overflow }).setRoute t none) ∧
  ∀ (who : Asker) (l : List Move),
    dropAsker who l = l.filterMap fun m =>
      if who ∈ m.askers then
        if m.askers.filter (· ≠ who) = [] then none else some { m with askers := m.askers.filter (· ≠ who) }
      else some m

/-- A queued move starts exactly while its row carries no RF and, for a close, every other crosspoint of its row and column is OPEN or opening, the column present, FREE and SETTLED, and for a route the claim held (R71); that its own crosspoint is not moving is the model's choice (log 10). A request for a move that its crosspoint already is in or moves to, or that finds it STUCK, needs no move; one that matches a queued move is merged with it, SAFETY if either is; a safety open of a CLOSING crosspoint is held until the close ends; another joins the queue of at most 16, safety opens ahead of all other moves, each kind in the order asked for (R70). A free slot goes to the first queued move that can start, until none is free or none can; the move then leaves the queue and its crosspoint is CLOSING or OPENING with its timer running (R72, R73). A drive order is sent only into a row that carries no RF (R71). The model's choices: no one is told at once of a request that needs no move, the routes reading the crosspoints themselves (log 11), a request merged with a move that still waits for room (log 51), the list that waits for room (log 12), the lowest free slot (log 25). A move's limit is worked out when it starts, the model's choice too (log 74). -/
def Obligations.NoMoveUnderRf : Prop :=
  (∀ (e : Env) (h : Hall) (m : Move), canStart e h m = true ↔
    (h.tx m.row).rfEnable = false ∧ e.rfPresent m.row = false ∧ (h.xp m.row m.col).moving = false ∧
    (m.close = true →
      (∀ c, c < 25 → h.xp m.row c = .opened ∨ h.xp m.row c = .opening) ∧
      (∀ t, t < 12 → h.xp t m.col = .opened ∨ h.xp t m.col = .opening) ∧
      (e.antConfig m.col).present = true ∧ (h.antenna m.col).lock = .free ∧ (h.antenna m.col).change = none ∧
      (h.claim m.col = some m.row ∨ ∃ x ∈ m.askers, x ≠ .route m.row))) ∧
  ((∀ (m : Move) (h : Hall),
      let x := h.xp m.row m.col
      let same := fun q : Move => q.row == m.row && q.col == m.col && q.close == m.close
      askMove m h =
        if x = .stuck ∨ (m.close = true ∧ (x = .closed ∨ x = .closing)) ∨
            (m.close = false ∧ (x = .opened ∨ x = .opening)) then h
        else if (h.matrix.queue ++ h.matrix.overflow).any same = true then h.mapMatrix (mergeInto m)
        else if m.safety = true ∧ x = .closing then h.mapMatrix fun n => { n with heldOpens := n.heldOpens ++ [m] }
        else enqueue m h) ∧
   (∀ (m : Move) (n : Matrix),
      let same := fun q : Move => q.row == m.row && q.col == m.col && q.close == m.close
      let merged := fun q : Move => { q with safety := q.safety || m.safety, askers := q.askers ++ m.askers }
      mergeInto m n =
        match n.queue.find? same with
        | some q =>
          if m.safety = true ∧ q.safety = false then
            { n with queue := placeInQueue (n.queue.filter fun q => !same q) (merged q) }
          else { n with queue := n.queue.map fun q => if same q then merged q else q }
        | none => { n with overflow := n.overflow.map fun q => if same q then merged q else q }) ∧
   (∀ (q : List Move) (m : Move), placeInQueue q m =
      if m.safety then q.filter (fun x => x.safety) ++ [m] ++ q.filter (fun x => !x.safety) else q ++ [m]) ∧
   (∀ (m : Move) (h : Hall),
      enqueue m h = drainOverflow (h.mapMatrix fun n => { n with overflow := n.overflow ++ [m] }) ∧
      drainOverflow h = h.mapMatrix fun n =>
        { n with queue := (drain n.queue n.overflow).1, overflow := (drain n.queue n.overflow).2 }) ∧
   ∀ (q l : List Move) (m : Move), drain q [] = (q, []) ∧
     drain q (m :: l) = if q.length < 16 then drain (placeInQueue q m) l else (q, m :: l)) ∧
  (∀ (e : Env) (n : Nat) (h : Hall) (r c : Nat) (close : Bool),
    .drive r c close ∈ (giveSlots e n h).orders → .drive r c close ∉ h.orders →
      (h.tx r).rfEnable = false ∧ e.rfPresent r = false) ∧
  (∀ (e : Env) (n : Nat) (h : Hall),
    giveSlots e 0 h = h ∧
    giveSlots e (n + 1) h =
      match (List.range 4).find? (fun i => (read h.matrix.slots i).isNone), h.matrix.queue.find? (canStart e h) with
      | some i, some m => giveSlots e n (drainOverflow (startMove e i m h))
      | _, _ => h) ∧
  ∀ (e : Env) (i : Nat) (m : Move) (h : Hall), i < 4 → m.row < 12 → m.col < 25 →
    (startMove e i m h).xp m.row m.col = (if m.close then .closing else .opening) ∧
    read (startMove e i m h).matrix.slots i =
      some { move := m, limit := e.timebase + (e.config.hall.travel + 4) * 1000 } ∧
    (startMove e i m h).matrix.queue =
      h.matrix.queue.filter (fun q => !(q.row == m.row && q.col == m.col && q.close == m.close)) ∧
    (startMove e i m h).orders = h.orders ++ [.drive m.row m.col m.close]

/-- A setting wanted of an antenna is sent exactly when the antenna is SETTLED and its column carries no RF, having no route or one whose row has RF enable withdrawn, reports no RF and has no carriage in KEYING: the setting is then UNKNOWN and the change runs to the setting time and 10 s more; else, and for the test load, nothing is sent and the hall is left (R84). A completion report at the target ends the change and tells its claimant, the transmitter it was sent for while that still claims the column, and no one else; elsewhere, or from an antenna that was not changing and stood known at another setting, a setting fault marks the antenna SUSPECT; the setting held is then the reported one; the test load and unknown antennas are discarded (R85, R86). At its limit a change ends UNKNOWN with a setting fault (R85). That a change remembers the claimant it was sent for is the model's choice (log 27), and that the expiry brings the timebase up to the limit too (log 3). The limit is worked out when the setting is sent, the model's choice too (log 74). -/
def Obligations.SettingsSentAndReported : Prop :=
  (∀ (e : Env) (a : Nat) (h : Hall), a < 25 →
     (∀ x, (h.antenna a).wanted = some x → (h.antenna a).change = none → a ≠ 24 →
       (∀ t, colRoute h a = some t →
         (h.tx t).rfEnable = false ∧ e.rfPresent t = false ∧ ∀ c, h.carriage t = some c → c.phase ≠ .keying) →
       sendSetting e a h = send (.setAntenna a x) (h.setAntenna a fun y =>
         { y with setting := none, wanted := none
                  change := some { target := x, limit := e.timebase + ((e.antConfig a).settingTime + 10) * 1000
                                   sentBy := h.claim a } }) ∧
       (sendSetting e a h).antenna a =
         { h.antenna a with setting := none, wanted := none
                            change := some { target := x
                                             limit := e.timebase + ((e.antConfig a).settingTime + 10) * 1000
                                             sentBy := h.claim a } } ∧
       (sendSetting e a h).orders = h.orders ++ [.setAntenna a x]) ∧
     ((h.antenna a).wanted = none ∨ (h.antenna a).change ≠ none ∨ a = 24 ∨
         (∃ t, colRoute h a = some t ∧
           ((h.tx t).rfEnable = true ∨ e.rfPresent t = true ∨ ∃ c, h.carriage t = some c ∧ c.phase = .keying)) →
       sendSetting e a h = h)) ∧
  ((∀ (s : State) (a : Nat) (x : Setting), s.power = .running →
     exec (.settingCompletionReport a x) s = .next (s.act fun h =>
       if 24 ≤ a then h
       else
         let known := h.setAntenna a fun y => { y with setting := some x, change := none }
         match (h.antenna a).change with
         | some ch =>
           if x = ch.target then tellSetting a ch true known else tellSetting a ch false (settingFault s.env a known)
         | none =>
           if (h.antenna a).setting = none ∨ (h.antenna a).setting = some x then known
           else settingFault s.env a known)) ∧
   (∀ (s : State) (a : Nat) (ch : SettingChange), s.power = .running → (s.hall.antenna a).change = some ch →
     let e := { s.env with timebase := max s.env.timebase ch.limit }
     exec (.settingTimeout a) s = .next (State.act { s with env := e } fun h =>
       tellSetting a ch false (settingFault e a (h.setAntenna a fun y => { y with setting := none, change := none })))) ∧
   (∀ (s : State) (a : Nat), (s.hall.antenna a).change = none → exec (.settingTimeout a) s = .next s) ∧
   (∀ (a : Nat) (ch : SettingChange) (reached : Bool) (h : Hall),
     tellSetting a ch reached h =
       match ch.sentBy with
       | some t =>
         if h.claim a = some t then
           if reached = true then raise (.settingDone t a ch.target) h else raise (.settingFailed t a) h
         else h
       | none => h) ∧
   ∀ (e : Env) (a : Nat) (h : Hall), a < 25 →
     ((settingFault e a h).antenna a).suspect = true ∧
     ((settingFault e a h).antenna a).setting = (h.antenna a).setting ∧
     read (settingFault e a h).attention.planning EventKind.settingFault.bit = some a ∧
     ((h.antenna a).suspect = false → read (settingFault e a h).attention.planning EventKind.suspect.bit = some a))

/-- A column claim is granted to a present, FREE antenna without the SUSPECT mark in a column that is not blocked and that no other transmitter claims; one that is refused is answered with the first of these that fails, in the order absent, locked, suspect, blocked, claimed, and leaves every claim as it was; one the transmitter already holds is granted at once and changes nothing (R76). A granted claim is the transmitter's only one; released, the column's setting request goes with it (R76, R77). -/
def Obligations.ClaimsAreExclusive : Prop :=
  (∀ (e : Env) (h : Hall) (t a : Nat),
    (claimRefusal e h t a =
      (([(!(e.antConfig a).present, .absent), (decide ((h.antenna a).lock ≠ .free), .locked),
         ((h.antenna a).suspect, .suspect), (colBlocked h a, .blocked),
         ((h.claim a).any (· != t), .claimed)] : List (Bool × ClaimRefusal)).find? (·.1)).map (·.2)) ∧
    (claimAnswer e h t a = if h.claim a = some t then none else claimRefusal e h t a) ∧
    (claimable e h t a = true ↔
      (e.antConfig a).present = true ∧ (h.antenna a).lock = .free ∧ (h.antenna a).suspect = false ∧
      colBlocked h a = false ∧ ∀ u, h.claim a = some u → u = t)) ∧
  (∀ (e : Env) (t a : Nat) (h : Hall),
    ((claimAnswer e h t a).isSome = true ∨ h.claim a = some t → grantClaim e t a h = h) ∧
    (claimAnswer e h t a = none → t < 12 → a < 25 → (∀ b c, h.claim b = some t → h.claim c = some t → b = c) →
      (grantClaim e t a h).claim a = some t ∧
      (∀ b, (grantClaim e t a h).claim b = some t → b = a) ∧
      ∀ b u, b ≠ a → u ≠ t → ((grantClaim e t a h).claim b = some u ↔ h.claim b = some u))) ∧
  ∀ (t a : Nat) (h : Hall), t < 12 → a < 25 →
    (releaseClaim t a h).claim a = none ∧ ((releaseClaim t a h).antenna a).wanted = none ∧
    (releaseClaim t a h).route t = none ∧ ∀ b, b ≠ a → (releaseClaim t a h).claim b = h.claim b

/-- The survey ends at its limit or with its last report: crosspoints without a report are STUCK and posted, the matrix is reconstructed, the requests held are taken in their order and the console's answered, everything is rescanned but in CONFIGURING, and after a warm restart of a running hall its scan is made (R89, R90, R179, R180). That scan goes through the bookings by ascending number: an ACTIVE one whose last run day's occurrence is not over, its outcome not MISSED, TOOK_LOCAL or CUT, takes the outcome CUT and is readmitted when its transmitter is present, not HELD and in mode REMOTE (R180). A survey report sets the crosspoint's state, one that reads MID leaves it STUCK and posted (R89). The reconstruction asks for a safety open of every closure in a row or column that holds two, in ascending crosspoint number; then a retained lock state whose column holds a CLOSED crosspoint or is blocked becomes LOCK_PENDING, its CLOSED crosspoints opened, and an empty LOCK_PENDING column becomes LOCKED at once (R83, R90). A request of the matrix that comes during the survey is held back without an answer, after those already held, and is answered by its block when the survey ends (R89, R179). The model's choices here: the timebase brought up to the limit (log 3), the list of the requests held (log 7), the order in which unreported crosspoints are posted (log 43) and columns reconstructed (log 44), the order of the restart's resume scan (log 60), the requests held taken before the rescan and that scan (log 69). -/
def Obligations.SurveyAndRequestsHeld : Prop :=
  ((∀ (s : State) (sv : Survey), s.power = .running → s.hall.matrix.survey = some sv →
     let e := { s.env with timebase := max s.env.timebase sv.limit }
     exec .surveyLimit s = .next (State.deliver
       (State.act { s with env := e } fun h => (endSurvey e sv h).1) (endSurvey e sv s.hall).2)) ∧
   (∀ s : State, s.hall.matrix.survey = none → exec .surveyLimit s = .next s) ∧
   (∀ (e : Env) (sv : Survey) (h : Hall),
     let stuck := sv.unreported.foldl (fun h x => setStuck e x.row x.col h) h
     let held := takeAllHeld e sv.held (reconstruct e (stuck.mapMatrix fun m => { m with survey := none })) none
     let scanned := if e.mode = .configuring then held.1 else rescan e held.1
     endSurvey e sv h = (if sv.warm = true ∧ e.mode = .running then restartScan e scanned else scanned, held.2) ∧
     (endSurvey e sv h).1.matrix.survey = none) ∧
   (∀ (e : Env) (h : Hall), restartScan e h = h.table.records.foldl (fun h b => restartOne e b h) h) ∧
   (∀ (e : Env) (b : Booking) (h : Hall),
     restartOne e b h =
       match b.lastRun with
       | none => h
       | some d =>
         if b.state = .active ∧ e.now < endOn b.fields d ∧ b.outcome ≠ .missed ∧ b.outcome ≠ .tookLocal ∧
             b.outcome ≠ .cut then
           let cut := h.mapBooking b.fields.number fun r => { r with outcome := .cut }
           let t := b.fields.transmitter
           if (e.txConfig t).present = true ∧ (h.tx t).state ≠ .held ∧ (h.tx t).mode = .remote then
             readmit e b.fields.number d cut
           else cut
         else h) ∧
   (∀ (e : Env) (h : Hall) (l : List RowCol), (∀ x ∈ l, x.row < 12 ∧ x.col < 25) → ∀ x ∈ l,
     (l.foldl (fun h x => setStuck e x.row x.col h) h).xp x.row x.col = .stuck) ∧
   (∀ (s : State) (r c : Nat) (reading : Reading) (sv : Survey), s.power = .running →
     s.hall.matrix.survey = some sv → r < 12 → c < 25 → (∃ x ∈ sv.unreported, x.row = r ∧ x.col = c) →
     let e := s.env.withReading r c reading
     ((∃ x ∈ sv.unreported, ¬ (x.row = r ∧ x.col = c)) →
       exec (.contactReport r c reading) s = .next (State.act { s with env := e } (surveyReport e r c reading))) ∧
     ((∀ x ∈ sv.unreported, x.row = r ∧ x.col = c) →
       exec (.contactReport r c reading) s = .next (State.deliver
         (State.act { s with env := e } fun h => (endSurvey e { sv with unreported := [] } (surveyReport e r c reading h)).1)
         (endSurvey e { sv with unreported := [] } (surveyReport e r c reading s.hall)).2))) ∧
   ∀ (e : Env) (r c : Nat) (reading : Reading) (h : Hall), r < 12 → c < 25 →
     (surveyReport e r c reading h).xp r c =
       (match reading with
        | .opened => .opened
        | .closed => .closed
        | .mid => .stuck) ∧
     (∀ r' c', ¬ (r' = r ∧ c' = c) → (surveyReport e r c reading h).xp r' c' = h.xp r' c') ∧
     (surveyReport e r c reading h).attention =
       (if reading = .mid then h.attention.post e.mask .stuck (r * 25 + c) else h.attention) ∧
     ∀ sv, h.matrix.survey = some sv → (surveyReport e r c reading h).matrix.survey =
       some { sv with unreported := sv.unreported.filter fun x => !(x.row == r && x.col == c) }) ∧
  ((∀ (e : Env) (h : Hall),
      reconstruct e h = forEach (List.range 25) (retakeLock e)
        ((duplicates h).foldl (fun h x => askSafetyOpen .startup x.row x.col h) h)) ∧
   (∀ (h : Hall),
      (∀ x, x ∈ duplicates h ↔ x.row < 12 ∧ x.col < 25 ∧ h.xp x.row x.col = .closed ∧
        ((∃ c, c < 25 ∧ c ≠ x.col ∧ h.xp x.row c = .closed) ∨ ∃ r, r < 12 ∧ r ≠ x.row ∧ h.xp r x.col = .closed)) ∧
      (duplicates h).Pairwise fun x y => x.row * 25 + x.col < y.row * 25 + y.col) ∧
   (∀ (e : Env) (a : Nat) (h : Hall),
      retakeLock e a h =
        if (h.antenna a).lock = .free then h
        else if (∀ r ∈ List.range 12, h.xp r a ≠ .closed) ∧ colBlocked h a = false then completeLock e a h
        else openColumn .startup a (h.setAntenna a fun x => { x with lock := .pending })) ∧
   ∀ (asker : Asker) (a : Nat) (h : Hall),
     openColumn asker a h =
       ((List.range 12).filter fun r => h.xp r a == .closed || h.xp r a == .closing).foldl
         (fun h r => askSafetyOpen asker r a h) h) ∧
  ((∀ (s : State) (sv : Survey) (tag : Byte) (i : Instr) (code : Nat), s.takes .console = true →
     s.hall.matrix.survey = some sv →
     ((∃ a : Nat, (i = .lockAntenna tag (.fields a) ∧ code = 23) ∨ (i = .freeAntenna tag (.fields a) ∧ code = 24) ∨
         (i = .clearSuspect tag (.fields a) ∧ code = 25) ∨ (i = .giveRemote tag (.fields a) ∧ code = 28)) ∨
       (∃ x : RowCol, i = .clearStuck tag (.fields x) ∧ code = 26) ∨
       (∃ r : LocalRouteArgs, i = .localRoute tag (.fields r) ∧ code = 29) ∨
       ∃ r : LocalArgs, i = .localRfOn tag (.fields r) ∧ code = 31) →
     exec i s = .next ((s.act fun h => h.mapMatrix fun m =>
       { m with survey := m.survey.map fun v => { v with held := v.held ++ [i] } }).reply .console code tag none)) ∧
   (∀ (e : Env) (h : Hall) (tag : Byte) (a : Nat), takeHeld (.lockAntenna tag (.fields a)) e h = lockRun a e h ∧
     takeHeld (.freeAntenna tag (.fields a)) e h = freeRun a e h ∧
     takeHeld (.clearSuspect tag (.fields a)) e h = clearSuspectRun a e h ∧
     takeHeld (.giveRemote tag (.fields a)) e h = giveRemoteRun a e h) ∧
   (∀ (e : Env) (h : Hall) (tag : Byte) (x : RowCol) (r : LocalRouteArgs) (l : LocalArgs),
     takeHeld (.clearStuck tag (.fields x)) e h = clearStuckRun x e h ∧
     takeHeld (.localRoute tag (.fields r)) e h = localRouteRun r e h ∧
     takeHeld (.localRfOn tag (.fields l)) e h = localRfOnRun l e h) ∧
   ∀ (e : Env) (i : Instr) (l : List Instr) (h : Hall) (a : Option Answer),
     takeAllHeld e [] h a = (h, a) ∧
     takeAllHeld e (i :: l) h a = takeAllHeld e l ((takeHeld i e h).change.elim h fun f => f h)
       ((takeHeld i e h).answer.or a))

/-! ## Locks, local control and the transmitters (05, 09) -/

/-- LOCK, FREE, CLEAR SUSPECT and CLEAR STUCK: their refusals in order and what each does, outside the survey (R91, R157, R161 to R163). A lock of a column that holds nothing CLOSED, moving or STUCK and no claim makes it LOCKED and posts LOCKED (R157). Any other becomes LOCK_PENDING, with a safety open asked for each of its CLOSED crosspoints and held against a CLOSING one (R158 to R160): a carriage in RF_DOWN, WORKING or READY that claims it loses the claim and resolves again (R158); one in KEYING or ON_AIR is asked to substitute, RF enable is tested, and without a grant it enters ENDING, CUT when it has aired and else MISSED, its claim withdrawn (R159); with a carriage in ENDING, or none, the claim if any is withdrawn (R160). As the lock state leaves FREE the queued closes into the column leave the queue; a carriage's route into it fails unless its close has started, and a local route whose close was queued is withdrawn (R79, R83). A column that is LOCK_PENDING becomes LOCKED, posted, exactly when it holds nothing CLOSED, moving or STUCK and no claim (R83). A freeing and a cleared SUSPECT mark have every transmitter refreshed that has a booking naming the antenna, as main or as alternate (R162, R163). The model's choices: the closes that leave are those of the moves that wait for room beyond the drive queue too (log 12), the routes fail by ascending transmitter (log 62), a refused carriage in KEYING or RECYCLING enters ENDING too (log 15), and a local route that still opens its row goes on (log 34). -/
def Obligations.LocksEmptyTheirColumn : Prop :=
  (∀ (s : State) (tag : Byte), s.takes .console = true →
     (∀ a : Nat, s.hall.matrix.survey = none → exec (.lockAntenna tag (.fields a)) s =
       if 24 < a then answers s .console 23 tag .format
       else if (s.env.antConfig a).present = false then answers s .console 23 tag .range
       else if (s.hall.antenna a).lock ≠ .free then answers s .console 23 tag .done
       else takes s .console 23 tag (lockColumn s.env a)) ∧
     (∀ a : Nat, s.hall.matrix.survey = none → exec (.freeAntenna tag (.fields a)) s =
       if 24 < a then answers s .console 24 tag .format
       else if (s.env.antConfig a).present = false then answers s .console 24 tag .range
       else match (s.hall.antenna a).lock with
         | .free => answers s .console 24 tag .done
         | .pending => answers s .console 24 tag .busy
         | .locked => takes s .console 24 tag fun h =>
             scan s.env (usersOf h a) (h.setAntenna a fun x => { x with lock := .free })) ∧
     (∀ a : Nat, s.hall.matrix.survey = none → exec (.clearSuspect tag (.fields a)) s =
       if 24 < a then answers s .console 25 tag .format
       else if (s.hall.antenna a).suspect = false then answers s .console 25 tag .done
       else takes s .console 25 tag fun h =>
         scan s.env (usersOf h a) (h.setAntenna a fun x => { x with suspect := false })) ∧
     ∀ x : RowCol, s.hall.matrix.survey = none → exec (.clearStuck tag (.fields x)) s =
       if 11 < x.row ∨ 24 < x.col then answers s .console 26 tag .format
       else if s.hall.xp x.row x.col ≠ .stuck then answers s .console 26 tag .done
       else match s.env.reading x.row x.col with
         | .mid => answers s .console 26 tag .blocked
         | .opened => takes s .console 26 tag fun h => h.setXp x.row x.col .opened
         | .closed =>
           if (∃ c ∈ List.range 25, s.hall.xp x.row c = .closed) ∨ (∃ t ∈ List.range 12, s.hall.xp t x.col = .closed) then
             answers s .console 26 tag .blocked
           else takes s .console 26 tag fun h =>
             if (h.antenna x.col).lock = .free then h.setXp x.row x.col .closed
             else askSafetyOpen .clearStuck x.row x.col
               ((h.setXp x.row x.col .closed).setAntenna x.col fun y => { y with lock := .pending })) ∧
  ((∀ (e : Env) (a : Nat) (h : Hall), a < 25 → columnEmpty h a = true →
     ((lockColumn e a h).antenna a).lock = .locked ∧ (lockColumn e a h).attention = h.attention.post e.mask .locked a ∧
     (∀ m, m ∈ (lockColumn e a h).matrix.queue ++ (lockColumn e a h).matrix.overflow → ¬ (m.close = true ∧ m.col = a)) ∧
     (lockColumn e a h).carriages = h.carriages) ∧
   (∀ (h : Hall) (a : Nat), columnEmpty h a = true ↔ (∀ t, t < 12 → h.xp t a = .opened) ∧ h.claim a = none) ∧
   (∀ (e : Env) (a : Nat) (h : Hall), columnEmpty h a = false →
     lockColumn e a h =
       match (h.claim a).bind fun t => (h.carriage t).map fun c => (t, c) with
       | none => lockRest a h
       | some (t, c) =>
         if c.phase = .keying ∨ c.phase = .onAir then
           let answer := substituteOnAir e t false h
           let pending := enforceOne e t (makePending a answer.2)
           let ending := endingForSent e t (if c.aired then .cut else .missed) pending
           refresh e t (openColumn .lock a
             (if answer.1 = true then pending else if ending.claim a = some t then releaseClaim t a ending else ending))
         else if c.phase = .ending then refresh e t (lockRest a h)
         else refresh e t (resolveAgain e t (releaseClaim t a (openColumn .lock a (makePending a h))))) ∧
   (∀ (a : Nat) (h : Hall),
     let opened := openColumn .lock a (makePending a h)
     lockRest a h =
       (match h.claim a with
        | some t => releaseClaim t a opened
        | none => opened) ∧
     (a < 25 → ((lockRest a h).antenna a).lock = .pending ∧ (lockRest a h).claim a = none)) ∧
   (∀ (a : Nat) (h : Hall),
     let failed := (List.range 12).foldl (fun h t => failLocked a t h) (h.setAntenna a fun x => { x with lock := .pending })
     makePending a h = failed.mapMatrix fun m =>
       { m with queue := m.queue.filter fun x => !(x.close && x.col == a)
                overflow := m.overflow.filter fun x => !(x.close && x.col == a) }) ∧
   (∀ (a t : Nat) (h : Hall),
     (h.route t = none → failLocked a t h = h) ∧
     ∀ q, h.route t = some q → failLocked a t h =
       if q.column = some a ∧ ¬ (q.placed = true ∧ h.xp t a = .closing) then
         if q.isLocal then (if q.placed then withdrawRoute t h else h)
         else raise (.routeFailed t a .columnLocked) (h.setRoute t none)
       else h) ∧
   (∀ (a : Nat) (h : Hall), a < 25 →
     ((makePending a h).antenna a).lock = .pending ∧
     ∀ m, m ∈ (makePending a h).matrix.queue ++ (makePending a h).matrix.overflow → ¬ (m.close = true ∧ m.col = a)) ∧
   (∀ (h : Hall) (a t : Nat),
     t ∈ usersOf h a ↔ t < 12 ∧ ∃ b ∈ h.table.records, b.fields.transmitter = t ∧
       (b.fields.antenna = a ∨ b.fields.alternate = some a)) ∧
   ∀ (e : Env) (a : Nat) (h : Hall), a < 25 →
     completeLock e a h =
       (if (h.antenna a).lock = .pending ∧ columnEmpty h a = true then
          post e .locked a (h.setAntenna a fun x => { x with lock := .locked })
        else h) ∧
     ((h.antenna a).lock = .pending → columnEmpty h a = true → ((completeLock e a h).antenna a).lock = .locked))

/-- LOCAL ROUTE, LOCAL TUNE, LOCAL RF ON and LOCAL RF OFF: their refusals in order, and what each asks of the matrix and the sequencer; the route and RF ON outside the survey (R80, R98, R100, R104, R165); that a LOCAL RF ON of too high a power is refused POWER before MODE is tested is the model's reading of R165 (log 35). A tune taken makes the tuned frequency none and starts a timer of the computed tune time plus the tune grace, with the order sent, or held unsent while ready is off; one that finds the transmitter tuned does nothing more, and one that finds a tune outstanding waits (R104, R106). An RF ON request of the carriage or the monitor finds a HELD transmitter refused; one that finds RF up sets a new power and is confirmed; one that finds the RF-up watch running or another request waiting joins it, and one that finds the RF-down watch running waits; else the conditions of R97 are tested, and a request that passes asserts RF enable, sends RF ON and starts the RF-up watch of 10 s, or waits for ready (R97, R98, R99, R106). A power set within the rated power and the antenna's rating is kept, also for a request that waits, and sent while RF enable is asserted (R103). The power of a request that joins another is dropped, the limit of a tune is worked out when it becomes outstanding, and a move that waits for room counts as queued: the model's choices (logs 47, 46 and 52). -/
def Obligations.LocalCommandsAndTunes : Prop :=
  (∀ (s : State) (tag : Byte), s.takes .console = true →
     (∀ r : LocalRouteArgs, s.hall.matrix.survey = none → exec (.localRoute tag (.fields r)) s =
       if 11 < r.transmitter ∨ r.column.any (24 < ·) = true then answers s .console 29 tag .format
       else if (s.hall.tx r.transmitter).state ≠ .console then answers s .console 29 tag .mode
       else if (s.hall.tx r.transmitter).rfEnable = true ∨ s.env.rfPresent r.transmitter = true then
         answers s .console 29 tag .interlock
       else if ∃ a, r.column = some a ∧ (s.env.antConfig a).present = false then answers s .console 29 tag .range
       else if ∃ a, r.column = some a ∧ (s.hall.antenna a).lock ≠ .free then answers s .console 29 tag .locked
       else if rowBlocked s.hall r.transmitter = true ∨ r.column.any (colBlocked s.hall) = true then
         answers s .console 29 tag .blocked
       else if (∃ a, r.column = some a ∧ ((s.hall.claim a).isSome = true ∨
             (colRoute s.hall a).any (· != r.transmitter) = true)) ∨
           (∃ m ∈ s.hall.matrix.queue ++ s.hall.matrix.overflow, m.row = r.transmitter) ∨
           (∃ c ∈ movingCols s.hall r.transmitter, True) then answers s .console 29 tag .busy
       else takes s .console 29 tag fun h =>
         beginRoute r.transmitter r.column true (rowOpens h r.transmitter r.column) (withdrawRoute r.transmitter h)) ∧
     (∀ r : LocalArgs, exec (.localTune tag (.fields r)) s =
       if 11 < r.transmitter ∨ isFrequency r.value = false then answers s .console 30 tag .format
       else if (s.hall.tx r.transmitter).state ≠ .console then answers s .console 30 tag .mode
       else if r.value < (s.env.txConfig r.transmitter).minFreq ∨ (s.env.txConfig r.transmitter).maxFreq < r.value then
         answers s .console 30 tag .range
       else if (s.hall.tx r.transmitter).rfEnable = true ∨ s.env.rfPresent r.transmitter = true then
         answers s .console 30 tag .interlock
       else takes s .console 30 tag (takeTune s.env r.transmitter r.value .console)) ∧
     (∀ r : LocalArgs, s.hall.matrix.survey = none → exec (.localRfOn tag (.fields r)) s =
       if 11 < r.transmitter ∨ r.value < 10 ∨ 600 < r.value then answers s .console 31 tag .format
       else if (s.env.txConfig r.transmitter).rated < r.value then answers s .console 31 tag .power
       else if (s.hall.tx r.transmitter).state ≠ .console ∨ s.env.mode = .configuring then answers s .console 31 tag .mode
       else if mayRadiate s.env s.hall r.transmitter r.value = false then answers s .console 31 tag .interlock
       else takes s .console 31 tag (rfOn s.env r.transmitter r.value .console)) ∧
     ∀ k : Nat, exec (.localRfOff tag (.fields k)) s =
       if 11 < k then answers s .console 32 tag .format
       else if (s.hall.tx k).state ≠ .console then answers s .console 32 tag .mode
       else takes s .console 32 tag (rfOff s.env k)) ∧
  (∀ (e : Env) (t f : Nat) (h : Hall), t < 12 →
     ((h.tx t).tune = none → (h.tx t).tuned ≠ some f →
       (takeTune e t f .console h).tx t =
         { h.tx t with tuned := none
                       tune := some
                         { frequency := f, origin := (h.tx t).tuned
                           limit := (tuneTime (e.txConfig t) (h.tx t).tuned f + e.config.hall.tuneGrace) * 1000
                           ends := if (e.indications t).ready then
                             some (e.timebase +
                               (tuneTime (e.txConfig t) (h.tx t).tuned f + e.config.hall.tuneGrace) * 1000) else none
                           requester := some .console } } ∧
       (takeTune e t f .console h).orders = h.orders ++
         (if (e.indications t).ready = true ∧ (e.txConfig t).present = true then [.tune t f] else [])) ∧
     ((h.tx t).tune = none → (h.tx t).tuned = some f → takeTune e t f .console h = h) ∧
     ((h.tx t).tune.isSome = true →
       (takeTune e t f .console h).tx t =
         { h.tx t with pendingTune := some { frequency := f, requester := .console } } ∧
       (takeTune e t f .console h).orders = h.orders)) ∧
  (∀ (e : Env) (t power : Nat) (who : Requester) (h : Hall),
     rfOn e t power who h =
       if who ≠ .console ∧ (h.tx t).state = .held then raise (.held t) h
       else if (h.tx t).rfEnable = true ∧ (h.tx t).rfUp = none ∧ e.rfPresent t = true then
         let set := if (h.tx t).power = some power then h else setPower e t power h
         if who = .console then set else raise (.rfUp t) set
       else if (h.tx t).rfUp ≠ none then h
       else match (h.tx t).rfOn with
         | some w => h.setTx t fun x => { x with rfOn := some { w with requesters := w.requesters ++ [who] } }
         | none =>
           if (h.tx t).rfDown ≠ none then
             h.setTx t fun x => { x with rfOn := some { power := power, forDown := true, requesters := [who] } }
           else rfOnChecked e t power [who] h) ∧
  (∀ (e : Env) (t power : Nat) (l : List Requester) (h : Hall), t < 12 →
     let left := rfOnChecked e t power l h
     (mayRadiate e h t power = false → left.tx t = { h.tx t with rfOn := none } ∧ left.orders = h.orders ∧
       left.agenda = h.agenda ++ (l.filter (· ≠ .console)).map (.interlock t)) ∧
     (mayRadiate e h t power = true → (e.indications t).ready = true →
       left.tx t =
         { h.tx t with power := some power, rfEnable := true, rfOn := none, rfUp := some (e.timebase + 10000) } ∧
       left.orders = h.orders ++ [.rfOn t power]) ∧
     (mayRadiate e h t power = true → (e.indications t).ready = false →
       left.tx t =
         { h.tx t with power := some power, rfOn := some { power := power, forDown := false, requesters := l } } ∧
       left.orders = h.orders)) ∧
  ∀ (e : Env) (t power : Nat) (h : Hall), t < 12 →
    let allowed := power ≤ (e.txConfig t).rated ∧ ∀ a, rowRoute h t = some a → power ≤ (e.antConfig a).rating
    (¬ allowed → setPower e t power h = h) ∧
    (allowed →
      (setPower e t power h).tx t =
        { h.tx t with power := some power, rfOn := (h.tx t).rfOn.map fun w => { w with power := power } } ∧
      (setPower e t power h).orders = h.orders ++
        (if (h.tx t).rfEnable = true ∧ (e.txConfig t).present = true then [.setPower t power] else []) ∧
      setPower e t power h = { h with txs := (setPower e t power h).txs, orders := (setPower e t power h).orders })

/-- TAKE LOCAL, GIVE REMOTE and CLEAR HELD: their refusals in order and what each does; GIVE REMOTE outside the survey (R110, R164, R166). TAKE LOCAL ends a carriage that is not ENDING with outcome TOOK_LOCAL, RF enable as it was (R164). GIVE REMOTE of a transmitter in state LOCAL tests R97 and then adopts the first occurrence it airs as booked, by start and then by booking number, its transmitter SERVING and its carriage at once ON_AIR with the column claimed, its outcome SUBSTITUTED or LATE and its STOP in the list; with none it is IDLE with RF enable withdrawn and RF OFF sent where RF could be on (R166). A HELD transmitter stays HELD (R166). The days looked at for an adoption are those a scan looks at, the model's reading of R166 (candidateDays), and an adopted carriage's late seconds are held at 65 535 (log 56); that LATE joins its reported field is the model's choice (log 71). -/
def Obligations.LocalAndHeldTransitions : Prop :=
  (∀ (s : State) (tag : Byte) (k : Nat), s.takes .console = true →
    (exec (.takeLocal tag (.fields k)) s =
      if 11 < k then answers s .console 27 tag .format
      else if (s.env.txConfig k).present = false then answers s .console 27 tag .range
      else if (s.hall.tx k).mode = .console then answers s .console 27 tag .done
      else takes s .console 27 tag (takeLocalChange s.env k)) ∧
    (s.hall.matrix.survey = none → exec (.giveRemote tag (.fields k)) s =
      if 11 < k then answers s .console 28 tag .format
      else if (s.env.txConfig k).present = false then answers s .console 28 tag .range
      else if (s.hall.tx k).mode = .remote then answers s .console 28 tag .done
      else takes s .console 28 tag (giveRemoteChange s.env k)) ∧
    (exec (.clearHeld tag (.fields k)) s =
      if 11 < k then answers s .console 33 tag .format
      else if (s.env.txConfig k).present = false then answers s .console 33 tag .range
      else if (s.hall.tx k).state ≠ .held then answers s .console 33 tag .done
      else if (s.env.indications k).fault = true ∨ (s.env.indications k).rfPresent = true then
        answers s .console 33 tag .busy
      else takes s .console 33 tag (clearHeldChange s.env k))) ∧
  (∀ (e : Env) (k : Nat) (h : Hall), k < 12 →
    ((clearHeldChange e k h).tx k =
      { h.tx k with reason := none, state := if (h.tx k).mode = .console then .console else .idle } ∧
     ((clearHeldChange e k h).monitor k).tripCount = 0) ∧
    ((takeLocalChange e k h).tx k).mode = .console ∧
    ((takeLocalChange e k h).tx k).state = (if (h.tx k).state = .held then .held else .console) ∧
    ((takeLocalChange e k h).tx k).rfEnable = (h.tx k).rfEnable ∧
    (takeLocalChange e k h).carriage k = none ∧
    (∀ c, h.carriage k = some c → c.phase ≠ .ending → (∀ w ∈ h.waitingList k, w.booking ≠ c.booking) →
      ∀ r ∈ (takeLocalChange e k h).table.records, r.fields.number = c.booking → r.outcome = .tookLocal) ∧
    ((giveRemoteChange e k h).tx k).mode = .remote ∧
    ((h.tx k).state = .held → ((giveRemoteChange e k h).tx k).state = .held) ∧
    ((h.tx k).state = .console →
      let given := enforceOne e k
        ((withdrawRoute k (h.setTx k fun x => { x with mode := .remote })).setTx k fun x => { x with state := .idle })
      (adoptions e given k = [] →
        ((giveRemoteChange e k h).tx k).state = .idle ∧ ((giveRemoteChange e k h).tx k).rfEnable = false ∧
        (giveRemoteChange e k h).carriages = h.carriages ∧
        ((e.txConfig k).present = true → (h.tx k).rfEnable = true ∨ e.rfPresent k = true →
          .rfOff k ∈ (giveRemoteChange e k h).orders)) ∧
      ∀ x rest, adoptions e given k = x :: rest → giveRemoteChange e k h = adopt e k x given)) ∧
  (∀ (e : Env) (t : Nat) (h : Hall),
    (∀ x, x ∈ adoptions e h t ↔ e.mode = .running ∧ (h.tx t).rfEnable = true ∧ e.rfPresent t = true ∧
      x.booking ∈ h.table.records ∧ x.day ∈ candidateDays e h x.booking.fields.number ∧
      candidate e h t x.booking x.day = true ∧ airedAsBooked e h t x.booking.fields = some (x.antenna, x.setting)) ∧
    (CollectionsOk h → (adoptions e h t).Pairwise fun x y =>
      startOn x.booking.fields x.day < startOn y.booking.fields y.day ∨
      (startOn x.booking.fields x.day = startOn y.booking.fields y.day ∧
        x.booking.fields.number ≤ y.booking.fields.number)) ∧
    (∀ (b : Booking) (d : Nat), candidate e h t b d = true ↔
      b.state = .active ∧ b.fields.transmitter = t ∧ carriesDay h.calendar.entries b.fields d = true ∧
      startOn b.fields d ≤ e.now ∧ e.now < endOn b.fields d ∧
      ((∀ l, b.lastRun = some l → l < d) ∨ (b.lastRun = some d ∧ b.outcome = .tookLocal))) ∧
    ∀ (b : Offered) (a : Nat) (x : Setting), airedAsBooked e h t b = some (a, x) ↔
      rowRoute h t = some a ∧ (h.antenna a).change = none ∧ (h.antenna a).setting = some x ∧
      claimable e h t a = true ∧ (h.tx t).tuned = some b.frequency ∧
      ((a = b.antenna ∧ x = b.setting) ∨
       (a ≠ b.antenna ∧ b.alternate = some a ∧ x = alternateSetting (e.antConfig a) b.setting))) ∧
  ∀ (e : Env) (t : Nat) (x : Adoption) (h : Hall), t < 12 → x ∈ adoptions e h t →
    let b := x.booking.fields
    let outcome : RunOutcome := if x.antenna ≠ b.antenna then .substituted else .late
    (adopt e t x h).carriage t = some
      { booking := b.number, day := x.day, start := startOn b x.day, stop := endOn b x.day, antenna := x.antenna
        setting := x.setting, frequency := b.frequency, power := b.power, lead := 0, phase := .onAir
        routeDone := false, tuneDone := false, settingDone := false, substituted := decide (x.antenna ≠ b.antenna)
        tripUsed := false, aired := true, lateSeconds := min (e.now - startOn b x.day) 65535, breakBegan := none
        outcome := outcome, said := { late := true, clamped := (saidOf h b.number x.day).clamped } } ∧
    (adopt e t x h).claim x.antenna = some t ∧ ((adopt e t x h).tx t).state = .serving ∧
    ((adopt e t x h).tx t).rfEnable = true ∧
    (adopt e t x h).table.records = h.table.records.map (fun r => if r.fields.number = b.number then
      { r with lastRun := some (max x.day (r.lastRun.getD 0)), outcome := outcome } else r) ∧
    ∃ c ∈ (adopt e t x h).lookahead.cues, c.booking = b.number ∧ c.day = x.day ∧ c.kind = .stop

/-- RF enable is asserted only while its conditions hold: a configured present transmitter that is not HELD, tuned within a band of the antenna of its settled route, at a power the antenna carries, in a hall mode that lets it radiate (R97). Every step keeps it. The route of a row is the column of its only CLOSED crosspoint, that of a column the row of its only one; a row's route is settled when every other crosspoint of the row is OPEN, its column holds no other CLOSED crosspoint, and the antenna is present, FREE and SETTLED (R67). -/
def Obligations.RfEnableOnlyWhileItsConditionsHold : Prop :=
  (∀ (s t : State), RfSafe s → step s = .next t → RfSafe t) ∧
  (∀ (e : Env) (h : Hall) (k power : Nat), mayRadiate e h k power = true ↔
    (e.txConfig k).present = true ∧ (h.tx k).state ≠ .held ∧
    (e.mode = .running ∨ (e.mode = .stopped ∧ (h.tx k).state = .console)) ∧
    ∃ a f, settledRoute e h k = some a ∧ (h.tx k).tuned = some f ∧
      (∃ w ∈ (e.antConfig a).windows, w.low ≤ f ∧ f ≤ w.high) ∧ power ≤ (e.antConfig a).rating) ∧
  ∀ (e : Env) (h : Hall) (t a : Nat),
    (rowRoute h t = some a ↔ a < 25 ∧ h.xp t a = .closed ∧ ∀ b, b < 25 → h.xp t b = .closed → b = a) ∧
    (colRoute h a = some t ↔ t < 12 ∧ h.xp t a = .closed ∧ ∀ u, u < 12 → h.xp u a = .closed → u = t) ∧
    (t < 12 → (settledRoute e h t = some a ↔
      a < 25 ∧ h.xp t a = .closed ∧ (∀ b, b < 25 → b ≠ a → h.xp t b = .opened) ∧
      (∀ u, u < 12 → h.xp u a = .closed → u = t) ∧
      (e.antConfig a).present = true ∧ (h.antenna a).lock = .free ∧ (h.antenna a).change = none))

/-- An RF OFF request withdraws RF enable and sends RF OFF to a present transmitter; RF is confirmed off at once when it is not present, and otherwise watched for the RF-down time and 5 s more, a watch that runs already going on; a waiting RF ON request is cancelled (R96, R100, R106). On entering HELD a transmitter keeps its reason, is sent RF OFF, loses its outstanding and pending tunes and with an outstanding one its tuned frequency, stops its recycle and clean-run timers, is posted, and one that was LOCAL has its local route withdrawn with the queued moves it alone asked for (R75); a transmitter already HELD changes nothing (R107). The model's readings: that becoming HELD counts as leaving LOCAL, so that the local route and its queued moves are withdrawn as R75 has it for a transmitter that leaves LOCAL (log 34), and that for RF_STUCK_ON too the RF OFF of the entry starts the RF-down watch anew while RF present is on (log 36). -/
def Obligations.RfOffAndHeldEntry : Prop :=
  (∀ (e : Env) (t : Nat) (h : Hall), t < 12 →
     (rfOff e t h).tx t =
       { h.tx t with rfEnable := false, rfUp := none, rfOn := none
                     rfDown := if (e.txConfig t).present = true ∧ e.rfPresent t = true ∧ (h.tx t).rfDown = none then
                         some (e.timebase + ((e.txConfig t).rfDown + 5) * 1000) else (h.tx t).rfDown } ∧
     (rfOff e t h).orders = h.orders ++ (if (e.txConfig t).present then [.rfOff t] else []) ∧
     (rfOff e t h).agenda = h.agenda ++
       (if (e.txConfig t).present = true ∧ e.rfPresent t = false then [.rfOff t] else []) ∧
     (∀ u, u ≠ t → (rfOff e t h).tx u = h.tx u) ∧
     rfOff e t h = { h with txs := (rfOff e t h).txs, orders := (rfOff e t h).orders, agenda := (rfOff e t h).agenda }) ∧
  (∀ (e : Env) (t : Nat) (reason : HeldReason) (h : Hall), t < 12 →
     ((h.tx t).state = .held → enterHeld e t reason h = h) ∧
     ((h.tx t).state ≠ .held →
       (enterHeld e t reason h).tx t =
         { (rfOff e t h).tx t with state := .held, reason := some reason, tune := none, pendingTune := none
                                   tuned := if (h.tx t).tune.isSome then none else (h.tx t).tuned } ∧
       ((enterHeld e t reason h).monitor t).recycle = none ∧ ((enterHeld e t reason h).monitor t).cleanRun = none ∧
       (enterHeld e t reason h).attention = h.attention.post e.mask .held t ∧
       (enterHeld e t reason h).orders = (rfOff e t h).orders ∧
       (enterHeld e t reason h).matrix =
         (if (h.route t).any (·.isLocal) = true then (withdrawRoute t h).matrix else h.matrix) ∧
       ∀ u, u ≠ t → (enterHeld e t reason h).tx u = h.tx u))

/-- A status report replaces the indications and, of a present transmitter, takes the changes of RF present, fault and ready in that order, each with what follows from it before the next (R96, R99 to R102, R106, R108; that each is settled first is the model's choice, log 4). RF present on confirms an RF-up watch that runs, and is answered with RF OFF where neither RF enable nor an RF-down watch accounts for it; RF present off empties the monitor's window and stops its clean-run timer, confirms an RF-down watch that runs and takes the RF ON request that waited for it, and makes a transmitter whose RF was up HELD with TX_FAULT; ready on sends the tune held unsent, its timer starting, and takes the RF ON request held for it (R98 to R102, R106, R138, R143). A tune complete report at the outstanding frequency ends the tune, the carriage told when the tune was its own, and takes the pending one as a new request, with the tests of R104: dropped when its transmitter is no longer LOCAL, or for a carriage's is HELD, when the frequency is out of range or RF could be on, at another makes the transmitter HELD, and without an outstanding tune is discarded (R105). The tune timer at its limit makes it HELD with TUNE (R105), the RF-up watch without RF present HELD with RF_UP (R99), the RF-down watch posts RF_FAULT and makes it HELD with RF_STUCK_ON (R101). The model's choices: a pending tune that fails its tests is dropped (log 32), a tune's limit is worked out when it becomes outstanding (log 46), the expiry brings the timebase up to the limit (log 3), and outside HELD the entry's RF OFF starts an RF-down watch anew (log 36). -/
def Obligations.ReportsAndTimersOfATransmitter : Prop :=
  (∀ (e : Env) (t : Nat) (h : Hall),
     ((h.tx t).pendingTune = none → takePendingTune e t h = h) ∧
     ∀ p, (h.tx t).pendingTune = some p →
       let cleared := h.setTx t fun x => { x with pendingTune := none }
       let barred := if p.requester = .console then (h.tx t).state ≠ .console else (h.tx t).state = .held
       takePendingTune e t h =
         if barred ∨ p.frequency < (e.txConfig t).minFreq ∨ (e.txConfig t).maxFreq < p.frequency ∨
             (h.tx t).rfEnable = true ∨ e.rfPresent t = true then cleared
         else takeTune e t p.frequency p.requester cleared) ∧
  (∀ (t f : Nat) (who : Option Requester) (h : Hall),
     tellTuned t f who h = if who = some .carriage then raise (.tuneDone t f) h else h) ∧
  ((∀ (s : State) (k : Nat) (i : Indications), s.power = .running → k < 12 →
     let e := { s.env with inputs := { s.env.inputs with indications := write s.env.inputs.indications k i } }
     let old := s.env.indications k
     exec (.statusReport k i) s = .next (State.act { s with env := e } fun h =>
       if (s.env.txConfig k).present = false then h
       else
         let rf := settle e (if i.rfPresent = true ∧ old.rfPresent = false then rfCameOn e k h
           else if i.rfPresent = false ∧ old.rfPresent = true then rfWentOff e k h else h)
         let held := settle e (if i.fault = true ∧ old.fault = false then enterHeld e k .txFault rf else rf)
         if i.ready = true ∧ old.ready = false then becameReady e k held else held)) ∧
   ∀ (s : State) (k f : Nat), s.power = .running →
     exec (.tuneComplete k f) s = .next (s.act fun h =>
       if (s.env.txConfig k).present = false then h
       else match (h.tx k).tune with
         | none => h
         | some u =>
           if u.frequency ≠ f then enterHeld s.env k .tune h
           else takePendingTune s.env k
             (tellTuned k f u.requester (h.setTx k fun x => { x with tuned := some f, tune := none })))) ∧
  (∀ (e : Env) (t : Nat) (h : Hall),
     rfCameOn e t h =
       (if (h.tx t).rfUp ≠ none then raise (.rfUp t) (h.setTx t fun x => { x with rfUp := none })
        else if (h.tx t).rfEnable = false ∧ (h.tx t).rfDown = none then rfOff e t h else h) ∧
     (let cleared := h.setMonitor t fun m => { m with window := [], cleanRun := none }
      rfWentOff e t h =
        if (h.tx t).rfDown ≠ none then
          let off := raise (.rfOff t) (cleared.setTx t fun x => { x with rfDown := none })
          match (h.tx t).rfOn with
          | some w => if w.forDown = true then rfOnChecked e t w.power w.requesters off else off
          | none => off
        else if (h.tx t).rfEnable = true ∧ (h.tx t).rfUp = none then enterHeld e t .txFault cleared else cleared) ∧
     let tuned := match (h.tx t).tune with
       | some u =>
         if u.ends = none then
           let timed := h.setTx t fun x => { x with tune := some { u with ends := some (e.timebase + u.limit) } }
           if (e.txConfig t).present = true then send (.tune t u.frequency) timed else timed
         else h
       | none => h
     t < 12 → becameReady e t h =
       match (h.tx t).rfOn with
       | some w => if w.forDown = true then tuned else rfOnChecked e t w.power w.requesters tuned
       | none => tuned) ∧
  ((∀ (s : State) (k limit : Nat), s.power = .running →
     let e := { s.env with timebase := max s.env.timebase limit }
     ((s.hall.tx k).tune.bind (·.ends) = some limit →
       exec (.tuneTimeout k) s = .next (State.act { s with env := e } (enterHeld e k .tune))) ∧
     ((s.hall.tx k).rfUp = some limit →
       exec (.rfUpTimeout k) s = .next (State.act { s with env := e } fun h =>
         let stopped := h.setTx k fun x => { x with rfUp := none }
         if e.rfPresent k then stopped else enterHeld e k .rfUp stopped)) ∧
     ((s.hall.tx k).rfDown = some limit →
       exec (.rfDownTimeout k) s = .next (State.act { s with env := e } fun h =>
         let stopped := post e .rfFault k (h.setTx k fun x => { x with rfDown := none })
         if (h.tx k).state = .held then stopped.setTx k fun x => { x with reason := some .rfStuckOn }
         else enterHeld e k .rfStuckOn stopped))) ∧
   ∀ (s : State) (k : Nat),
     ((s.hall.tx k).tune.bind (·.ends) = none → exec (.tuneTimeout k) s = .next s) ∧
     ((s.hall.tx k).rfUp = none → exec (.rfUpTimeout k) s = .next s) ∧
     ((s.hall.tx k).rfDown = none → exec (.rfDownTimeout k) s = .next s))

/-! ## Reflection protection (07) -/

/-- A detector conversion replaces the pair; it is an evaluation when the transmitter is present and SERVING, its carriage in KEYING or ON_AIR and the forward code at the floor (R134). An evaluation's reflection enters the record and the window of 8, and the displayed ratio, in tenths, is 10 × (1 024 + mean) / (1 024 − mean) with the window's mean ⌊sum / count⌋, a half rounded up, at most 999; at the arc threshold it trips at once, above the trip threshold with the evaluation before it, else the trip run returns to 0; one that does not trip counts toward the warning, posted at the eighth in a row once for an occurrence (R135 to R138). -/
def Obligations.EvaluationsTripAndWarn : Prop :=
  ((∀ (s : State) (k : Nat) (vf vr : BitVec 10), s.power = .running →
     let e := { s.env with inputs := { s.env.inputs with pairs := write s.env.inputs.pairs k (vf, vr) } }
     exec (.detectorConversion k vf vr) s = .next (State.act { s with env := e } fun h =>
       if (s.env.txConfig k).present = true ∧
           (∃ c ∈ (h.carriage k).toList, c.phase = .keying ∨ c.phase = .onAir) ∧ (h.tx k).state = .serving ∧
           s.env.config.hall.floor ≤ vf.toNat then evaluate e k vf.toNat vr.toNat h
       else h)) ∧
   (∀ vf vr : Nat, 0 < vf →
     reflection vf vr ≤ 1023 ∧ (vf ≤ vr → reflection vf vr = 1023) ∧
     (reflection vf vr < 1023 → reflection vf vr * vf ≤ 1024 * vr ∧ 1024 * vr < (reflection vf vr + 1) * vf)) ∧
   (∀ window : List Nat,
     let mean := window.sum / window.length
     displayedRatio window = min ((2 * (10 * (1024 + mean)) + (1024 - mean)) / (2 * (1024 - mean))) 999) ∧
   [11, 12, 14, 15, 18, 20, 25, 30].map threshold = [48, 93, 170, 204, 292, 341, 438, 512]) ∧
  (∀ (e : Env) (k vf vr : Nat) (h : Hall), k < 12 →
     let r := reflection vf vr
     let m := h.monitor k
     let window := (if 8 ≤ m.window.length then m.window.drop 1 else m.window) ++ [r]
     let seen := { m with reflection := some r, window := window, displayed := some (displayedRatio window) }
     let own := (h.carriage k).map fun c => ({ booking := c.booking, day := c.day } : Occurrence)
     let runs := if threshold e.config.hall.warnVswr < r then m.warnRun + 1 else 0
     (921 ≤ r ∨ (threshold e.config.hall.tripVswr < r ∧ 1 ≤ m.tripRun) →
       evaluate e k vf vr h = trip e k (h.setMonitor k fun _ => { seen with tripRun := 0, warnRun := 0 })) ∧
     (r < 921 → ¬ (threshold e.config.hall.tripVswr < r ∧ 1 ≤ m.tripRun) →
       (evaluate e k vf vr h).monitor k =
         { seen with
           tripRun := if threshold e.config.hall.tripVswr < r then m.tripRun + 1 else 0
           warnRun := if runs < 8 then runs else 0
           warned := if 8 ≤ runs then own else m.warned } ∧
       (evaluate e k vf vr h).attention =
         (if 8 ≤ runs ∧ m.warned ≠ own then h.attention.post e.mask .reflectionWarn k else h.attention) ∧
       (evaluate e k vf vr h).txs = h.txs ∧ (evaluate e k vf vr h).carriages = h.carriages))

/-- A trip takes RF down, counts and posts TRIP and stops the clean-run timer; up to the retry limit it starts the recycle timer (R109, R139). Past it a substitution is asked for: granted, the trip count is 0 again and no recycle runs; refused, the transmitter is HELD with reason TRIPS; the antenna of the trip is SUSPECT either way (R141, R142). A substitution on air is granted to a carriage in KEYING or ON_AIR that has not been substituted, has an alternate that is usable for it (R117, as PrepareOpensACarriage spells it out), and, when a trip asks, has not substituted for one before; granted, the carriage moves to the alternate, SUBSTITUTED is posted, and it is prepared again without a new tune; a request of a trip is remembered whatever its answer, one refused for the carriage's phase too (R129, R141). The recycle timer at its limit makes a RECYCLING transmitter SERVING and asks for RF ON at its commanded power; the clean-run timer at its limit clears the trip count (R140, R143). The model's choices: that an expiry brings the timebase up to its timer's limit (log 3); the power of a recycle without a commanded power is a free value (log 57). -/
def Obligations.TripAndRecycle : Prop :=
  (∀ (e : Env) (k : Nat) (h : Hall), k < 12 → (h.monitor k).tripCount < e.config.hall.retryLimit →
    (trip e k h).monitor k =
      { h.monitor k with tripAntenna := (h.carriage k).map (·.antenna), tripCount := (h.monitor k).tripCount + 1
                         cleanRun := none
                         recycle := some (e.timebase + e.config.hall.recycleDelay * 1000) } ∧
    ((trip e k h).tx k).rfEnable = false ∧
    ((h.tx k).state = .serving → ((trip e k h).tx k).state = .recycling) ∧
    (trip e k h).attention = h.attention.post e.mask .trip k ∧
    ((e.txConfig k).present = true → .rfOff k ∈ (trip e k h).orders)) ∧
  (∀ (e : Env) (k : Nat) (c : Carriage) (h : Hall), k < 12 → h.carriage k = some c → c.antenna < 25 →
    e.config.hall.retryLimit ≤ (h.monitor k).tripCount → (h.tx k).state = .serving →
    ((trip e k h).tx k).rfEnable = false ∧ ((trip e k h).antenna c.antenna).suspect = true ∧
    (((trip e k h).tx k).state = .held ∧ ((trip e k h).tx k).reason = some .trips ∨
     (((trip e k h).monitor k).tripCount = 0 ∧
       ∃ d, (trip e k h).carriage k = some d ∧ d.substituted = true ∧ d.tripUsed = true ∧ d.phase = .rfDown))) ∧
  (∀ (e : Env) (k : Nat) (h : Hall), k < 12 → e.config.hall.retryLimit ≤ (h.monitor k).tripCount →
    let down := tripTx e k (h.setMonitor k fun m => { m with tripAntenna := (h.carriage k).map (·.antenna) })
    trip e k h = pastRetryLimit e k (post e .trip k (down.setMonitor k fun m =>
      { m with tripCount := m.tripCount + 1, cleanRun := none })) ∧
    tripTx e k h = rfOff e k (h.setTx k fun x => { x with state := if x.state = .serving then .recycling else x.state })) ∧
  (∀ (e : Env) (k : Nat) (h : Hall),
    let marked := fun h : Hall => match (h.monitor k).tripAntenna with
      | none => h
      | some a =>
        if (h.antenna a).suspect then h
        else post e .suspect a (h.setAntenna a fun x => { x with suspect := true })
    let answer := substituteOnAir e k true h
    (h.carriage k = none → pastRetryLimit e k h = marked h) ∧
    (h.carriage k ≠ none → pastRetryLimit e k h =
      if answer.1 = true then (marked answer.2).setMonitor k fun m => { m with tripCount := 0, recycle := none }
      else enterHeld e k .trips (marked answer.2))) ∧
  (∀ (e : Env) (t : Nat) (c : Carriage) (forTrip : Bool) (h : Hall), h.carriage t = some c →
    let live := c.phase = .keying ∨ c.phase = .onAir
    let tried := if forTrip then h.setCarriage t (some { c with tripUsed := true }) else h
    (¬ live ∨ c.substituted = true ∨ (forTrip = true ∧ c.tripUsed = true) ∨ freeAlternate e h t c = none →
      substituteOnAir e t forTrip h = (false, tried)) ∧
    (∀ a x, live → c.substituted = false → ¬ (forTrip = true ∧ c.tripUsed = true) → freeAlternate e h t c = some (a, x) →
      substituteOnAir e t forTrip h =
        (true, reprepare e t false (moveToAlternate e t a x { c with tripUsed := c.tripUsed || forTrip } tried))) ∧
    ∀ a x, moveToAlternate e t a x c h = refresh e t (post e .substituted c.booking
      ((grantClaim e t a h).setCarriage t (some
        { c with antenna := a, setting := x, substituted := true, routeDone := false, settingDone := false })))) ∧
  (∀ (s : State) (k limit : Nat), s.power = .running →
    let e := { s.env with timebase := max s.env.timebase limit }
    ((s.hall.monitor k).recycle = some limit →
      exec (.recycleTimerExpiry k) s = .next (State.act { s with env := e } fun h =>
        let stopped := h.setMonitor k fun m => { m with recycle := none }
        if (h.tx k).state = .recycling then
          rfOn e k ((h.tx k).power.getD (Config.freePower k e.timebase)) .monitor (stopped.setTx k fun x => { x with state := .serving })
        else stopped)) ∧
    ((s.hall.monitor k).cleanRun = some limit →
      exec (.cleanRunExpiry k) s = .next (State.act { s with env := e } fun h =>
        h.setMonitor k fun m => { m with cleanRun := none, tripCount := 0 }))) ∧
  ∀ (s : State) (k : Nat),
    ((s.hall.monitor k).recycle = none → exec (.recycleTimerExpiry k) s = .next s) ∧
    ((s.hall.monitor k).cleanRun = none → exec (.cleanRunExpiry k) s = .next s)

/-! ## Carriages (06, 08) -/

/-- A PREPARE is taken once: its day becomes the booking's last run day and it leaves the readmission list; one that is over is MISSED, one whose transmitter has a carriage waits, and another is refused and settled, or opens a carriage on the first of main antenna and alternate that is usable (R23, R113, R115, R116), the column as R117 has it. The carriage holds the booking's fields and the resolved antenna and setting, claims its column, posts SUBSTITUTED on the alternate and makes the transmitter SERVING; over a live row it starts in RF_DOWN with RF OFF asked for, else in WORKING (R95, R112, R116, R118, R119). RF confirmed off takes a carriage from RF_DOWN to WORKING, or ends one in ENDING (R118, R124). One that enters WORKING asks for its route, its setting and, unless tuned, its tune; each piece of work done that fits sets its flag, and with all three it is READY before its start and from then on asks for RF ON in KEYING (R78, R84, R104, R119, R121). A route not there yet asks for an ordinary open of every other CLOSED or CLOSING crosspoint of its row and of every CLOSED one of its column in another row, a local route for those of its row; with none needed the close is asked for at once, or the route is done where its crosspoint is CLOSED (R78, R80). A failure of its route or setting, or a crosspoint STUCK in its column, makes a carriage in RF_DOWN, WORKING or READY resolve again, one in its row ends it: from its main antenna it moves to a usable alternate, posted SUBSTITUTED, else it ends (R120). A re-preparation marks the break of an occurrence that has aired, clears its flags, ends a recycle and enters RF_DOWN with RF OFF asked for (R130). The model's choices: an INTERLOCK's retry waits (log 8), a second re-preparation starts the break anew (17), a refused tune leaves WORKING (32), the clock alone says whether a START has passed (54), lateness held at 65 535 (56), opens by ascending number (62), a waiting entry stands at a second PREPARE (75). -/
def Obligations.PrepareOpensACarriage : Prop :=
  (∀ (e : Env) (h : Hall) (t a : Nat),
     usable e h t a = true ↔
       (e.antConfig a).present = true ∧ (h.antenna a).lock = .free ∧ (h.antenna a).suspect = false ∧
       (∀ r, r < 12 → h.xp r a ≠ .stuck) ∧ (∀ u, h.claim a = some u → u = t) ∧
       ∀ r, colRoute h a = some r → r ≠ t →
         h.carriage r = none ∧ (h.tx r).state ≠ .console ∧ e.rfPresent r = false) ∧
  (∀ (e : Env) (cue : Cue) (b : Booking) (h : Hall), h.booking cue.booking = some b →
     let t := b.fields.transmitter
     let w : Waiting := { booking := cue.booking, day := cue.day, lead := cue.lead, said := cue.said }
     let taken :=
       (h.mapBooking cue.booking fun r => { r with lastRun := some (max cue.day (r.lastRun.getD 0)) }).mapLookahead fun l =>
         { l with readmit := l.readmit.filter fun o => !(o.booking == cue.booking && o.day == cue.day) }
     takePrepare e cue h =
       (if endOn b.fields cue.day ≤ e.now then settleOutcome e cue.booking .missed taken
        else if (h.carriage t).isSome = true then
          if ∃ x ∈ h.waitingList t, x.booking = cue.booking ∧ x.day = cue.day then taken
          else taken.setWaiting t (h.waitingList t ++ [w])
        else if e.mode = .stopped then settleOutcome e b.fields.number .missed taken
        else if (h.tx t).mode = .console then settleOutcome e b.fields.number .tookLocal taken
        else if (h.tx t).state = .held ∨ rowBlocked h t = true then settleOutcome e b.fields.number .missed taken
        else if usable e h t b.fields.antenna = true then openCarriage e t b.fields w b.fields.antenna b.fields.setting taken
        else match b.fields.alternate with
          | some a =>
            if usable e h t a = true then
              openCarriage e t b.fields w a (alternateSetting (e.antConfig a) b.fields.setting) taken
            else settleOutcome e b.fields.number .missed taken
          | none => settleOutcome e b.fields.number .missed taken)) ∧
  (∀ (e : Env) (t a : Nat) (b : Offered) (w : Waiting) (x : Setting) (h : Hall), t < 12 → a < 25 →
     usable e h t a = true →
     let live := (h.tx t).rfEnable = true ∨ e.rfPresent t = true
     let c : Carriage :=
       { booking := b.number, day := w.day, start := w.day * 86400 + b.start * 60
         stop := w.day * 86400 + b.start * 60 + b.duration * 60, antenna := a, setting := x, frequency := b.frequency
         power := b.power, lead := w.lead, phase := if live then .rfDown else .working, routeDone := false, tuneDone := false, settingDone := false
         substituted := decide (a ≠ b.antenna), tripUsed := false, aired := false
         lateSeconds := min (e.now + (if e.rfPresent t then (e.txConfig t).rfDown else 0) + w.lead -
           (w.day * 86400 + b.start * 60)) 65535
         breakBegan := none, outcome := .none, said := w.said }
     let claimed := grantClaim e t a h
     let posted := if a = b.antenna then claimed else post e .substituted b.number claimed
     let known := refresh e t
       ((posted.setCarriage t (some { c with phase := .working })).setTx t fun y => { y with state := .serving })
     let opened := openCarriage e t b w a x h
     opened = (if live then rfOff e t (known.setCarriage t (some c)) else enterWorking e t known) ∧
     opened.carriage t = some c ∧ (∀ u, u ≠ t → opened.carriage u = h.carriage u) ∧ opened.claim a = some t ∧
     (opened.tx t).state = .serving ∧ (opened.tx t).rfEnable = false ∧ opened.table = h.table) ∧
  (∀ (e : Env) (t : Nat) (c : Carriage) (h : Hall), h.carriage t = some c →
     enterWorking e t h =
       (let asked := askSetting e t c.antenna c.setting
          (askRoute t c.antenna (h.setCarriage t (some { c with phase := .working })))
        if c.tuneDone = true then asked else askTune e t c.frequency asked) ∧
     workCheck e t h =
       (if c.phase = .working ∧ c.routeDone = true ∧ c.tuneDone = true ∧ c.settingDone = true ∧ t ∉ h.keyAgain then
          if e.now < c.start then h.setCarriage t (some { c with phase := .ready })
          else rfOn e t c.power .carriage (h.setCarriage t (some { c with phase := .keying }))
        else h)) ∧
  (∀ (e : Env) (t a f : Nat) (x : Setting) (h : Hall),
     (let left := withdrawRoute t h
      askRoute t a h =
        if rowRoute left t = some a then raise (.routeDone t a) left
        else if rowBlocked left t = true then raise (.routeFailed t a .rowBlocked) left
        else if colBlocked left a = true then raise (.routeFailed t a .columnBlocked) left
        else beginRoute t (some a) false (rowOpens left t (some a) ++ columnOpens left t a) left) ∧
     askSetting e t a x h =
       (if h.claim a ≠ some t ∨ admits (e.antConfig a) x = false then h
        else if (h.antenna a).change = none ∧ (h.antenna a).setting = some x then raise (.settingDone t a x) h
        else h.setAntenna a fun y => { y with wanted := some x }) ∧
     askTune e t f h =
       if (h.tx t).state = .held then raise (.held t) h
       else if f < (e.txConfig t).minFreq ∨ (e.txConfig t).maxFreq < f ∨ (h.tx t).rfEnable = true ∨
           e.rfPresent t = true then h
       else takeTune e t f .carriage h) ∧
  ((∀ (h : Hall) (t a : Nat) (column : Option Nat) (x : RowCol),
      (x ∈ rowOpens h t column ↔ x.row = t ∧ x.col < 25 ∧ column ≠ some x.col ∧
        (h.xp t x.col = .closed ∨ h.xp t x.col = .closing)) ∧
      (x ∈ columnOpens h t a ↔ x.col = a ∧ x.row < 12 ∧ x.row ≠ t ∧ h.xp x.row a = .closed) ∧
      ((rowOpens h t column).Pairwise fun y z => y.col < z.col) ∧
      (columnOpens h t a).Pairwise fun y z => y.row < z.row) ∧
   (∀ (t : Nat) (column : Option Nat) (isLocal : Bool) (opens : List RowCol) (h : Hall),
      let asker : Asker := if isLocal then .localRoute t else .route t
      let asked := h.setRoute t (some { column := column, opens := opens, placed := false, isLocal := isLocal })
      beginRoute t column isLocal opens h =
        routeStep t (opens.foldl (fun h x =>
          askMove { row := x.row, col := x.col, close := false, safety := false, askers := [asker] } h) asked)) ∧
   ∀ (t : Nat) (isLocal : Bool) (h : Hall), t < 12 →
      let asker : Asker := if isLocal then .localRoute t else .route t
      beginRoute t none isLocal [] h = h.setRoute t none ∧
      ∀ a, beginRoute t (some a) isLocal [] h =
        if h.xp t a = .closed then
          if isLocal = true then h.setRoute t none else raise (.routeDone t a) (h.setRoute t none)
        else askMove { row := t, col := a, close := true, safety := false, askers := [asker] }
          (h.setRoute t (some { column := some a, opens := [], placed := true, isLocal := isLocal }))) ∧
  (∀ (e : Env) (t : Nat) (c : Carriage) (h : Hall), t < 12 → h.carriage t = some c →
     let early := c.phase = .rfDown ∨ c.phase = .working ∨ c.phase = .ready
     let lost : RunOutcome := if c.aired then .cut else .missed
     takeReport e (.rfOff t) h =
       (if e.rfPresent t = true then h
        else if c.phase = .rfDown then enterWorking e t h
        else if c.phase = .ending then endCarriage e t h else h) ∧
     (∀ f, takeReport e (.tuneDone t f) h =
       if (c.phase = .working ∨ c.phase = .rfDown) ∧ c.frequency = f then
         workCheck e t (h.setCarriage t (some { c with tuneDone := true })) else h) ∧
     (∀ a, takeReport e (.routeDone t a) h =
       if c.phase = .working ∧ c.antenna = a then
         workCheck e t (h.setCarriage t (some { c with routeDone := true })) else h) ∧
     (∀ a x, takeReport e (.settingDone t a x) h =
       if c.phase = .working ∧ c.antenna = a ∧ c.setting = x then
         workCheck e t (h.setCarriage t (some { c with settingDone := true })) else h) ∧
     (∀ a why, takeReport e (.routeFailed t a why) h =
       if early ∧ c.antenna = a then
         if why = .rowBlocked then endWith e t lost h else resolveAgain e t h
       else h) ∧
     (∀ a, takeReport e (.settingFailed t a) h =
       if early ∧ c.antenna = a then resolveAgain e t h else h) ∧
     takeReport e (.rowBlocked t) h =
       (if rowBlocked h t = true ∧ early then endWith e t lost h else h) ∧
     ∀ a, takeReport e (.columnBlocked t a) h =
       if colBlocked h a = true ∧ early ∧ c.antenna = a then resolveAgain e t h else h) ∧
  (∀ (e : Env) (t : Nat) (c : Carriage) (h : Hall), t < 12 → h.carriage t = some c →
     let other := if (h.booking c.booking).any (fun b => b.fields.antenna == c.antenna) = true then
         freeAlternate e h t c
       else none
     (∀ a x, freeAlternate e h t c = some (a, x) ↔ ∃ b, h.booking c.booking = some b ∧ b.fields.alternate = some a ∧
       usable e h t a = true ∧ x = alternateSetting (e.antConfig a) b.fields.setting) ∧
     (other = none → resolveAgain e t h = endWith e t (if c.aired then .cut else .missed) h) ∧
     ∀ a x, other = some (a, x) →
       (resolveAgain e t h).carriage t = some
         { c with antenna := a, setting := x, substituted := true, routeDone := false, settingDone := false
                  phase := if c.phase = .rfDown then .rfDown else .working } ∧
       (resolveAgain e t h).claim a = some t ∧
       read (resolveAgain e t h).attention.planning EventKind.substituted.bit = some c.booking) ∧
  ∀ (e : Env) (t : Nat) (c : Carriage) (retune : Bool) (h : Hall), t < 12 → h.carriage t = some c →
     let again := reprepare e t retune h
     let down := { c with breakBegan := if c.aired then some e.now else none, routeDone := false, settingDone := false
                          tuneDone := c.tuneDone && !retune, phase := .rfDown }
     let broken := h.setCarriage t (some down)
     again = rfOff e t (if (h.tx t).state = .recycling then
       (broken.setMonitor t fun m => { m with recycle := none }).setTx t fun x => { x with state := .serving }
       else broken) ∧
     again.carriage t = some down ∧
     (again.tx t).rfEnable = false ∧
     (again.tx t).state = (if (h.tx t).state = .recycling then .serving else (h.tx t).state) ∧
     (again.monitor t).recycle = (if (h.tx t).state = .recycling then none else (h.monitor t).recycle)

/-- A carriage in KEYING goes ON_AIR with RF present: its lateness runs from its start, or from the break for one prepared again, its outcome is SUBSTITUTED, LATE or AIRED, written to the booking, and LATE is posted once (R121). RF present also starts the clean-run timer of a carriage that is ON_AIR, its transmitter SERVING and its trip count above 0 (R143). An RF ON that failed with reason INTERLOCK sends a carriage in KEYING back to WORKING, its route and setting asked for again (R121); the monitor's, a recycle's, lets one in KEYING or ON_AIR enter ENDING (R140). A START keys a READY carriage and no other (R123). A STOP brings ENDING and asks for RF OFF from ON_AIR, KEYING and RF_DOWN, ends at once a carriage in WORKING or READY and that of a RECYCLING transmitter (R139), and does nothing in ENDING; an ON_AIR carriage keeps its outcome, another ends MISSED, or CUT when it has aired (R124). At a STOP cue an ON_AIR carriage passes instead to a carry-over whose carry START is due then, on the same antenna, setting and frequency, the antenna not SUSPECT and FREE and the transmitter SERVING: the outgoing outcome is written, the carriage takes the new occurrence with no lead and outcome AIRED, and neither RF nor matrix changes but a new power (R126). The STOP of an occurrence that only waits takes its entry away and settles it MISSED (R125); a carry START of an occurrence whose carriage serves it sets its last run day and the outcome AIRED, another is taken as a PREPARE of lead 0 (R127). The model's choices: the retry after an INTERLOCK waits (log 8), a STOP that finds ENDING leaves a waiting entry (48), a START leaves no note (54), a negative break counts 0, one of 0 late seconds gives AIRED (55), lateness held at 65 535 (56), a RECYCLING carriage ends at its STOP with RF present on too (61), the lowest of two carriages is taken (64), a START before an amended start keys too (66), a STOP looks in every waiting list, the lowest first (76). -/
def Obligations.OnAirStartAndStop : Prop :=
  (∀ (e : Env) (t : Nat) (c : Carriage) (h : Hall), t < 12 →
     let late := min (match c.breakBegan with
       | none => e.now - c.start
       | some b => c.lateSeconds + (e.now - b)) 65535
     let outcome : RunOutcome := if c.substituted then .substituted else if 0 < late then .late else .aired
     (enterOnAir e t c h).carriage t = some
       { c with phase := .onAir, lateSeconds := late, breakBegan := none, aired := true, outcome := outcome
                said := { c.said with late := c.said.late || decide (0 < late) } } ∧
     (enterOnAir e t c h).table.records = h.table.records.map (fun r =>
       if r.fields.number = c.booking then { r with outcome := outcome } else r) ∧
     (enterOnAir e t c h).attention =
       (if 0 < late ∧ c.said.late = false then h.attention.post e.mask .late c.booking else h.attention)) ∧
  ((∀ (e : Env) (t : Nat) (c : Carriage) (h : Hall), h.carriage t = some c →
     takeReport e (.rfUp t) h = startCleanRun e t (if c.phase = .keying then enterOnAir e t c h else h) ∧
     takeReport e (.interlock t .carriage) h =
       (if c.phase = .keying then
          let again := { h.setCarriage t (some { c with phase := .working, routeDone := false, settingDone := false }) with
            keyAgain := if t ∈ h.keyAgain then h.keyAgain else h.keyAgain ++ [t] }
          askSetting e t c.antenna c.setting (askRoute t c.antenna again)
        else h) ∧
     ∀ who, who ≠ .carriage → takeReport e (.interlock t who) h =
       if c.phase = .keying ∨ c.phase = .onAir then endingForSent e t (if c.aired then .cut else .missed) h else h) ∧
   ∀ (e : Env) (t : Nat) (h : Hall),
     startCleanRun e t h =
       if (h.carriage t).any (fun c => c.phase == .onAir) = true ∧ (h.tx t).state = .serving ∧ e.rfPresent t = true ∧
           0 < (h.monitor t).tripCount then
         h.setMonitor t fun m => { m with cleanRun := some (e.timebase + e.config.hall.cleanRun * 60000) }
       else h) ∧
  ((∀ (e : Env) (t due : Nat) (pass : Bool) (c : Carriage) (h : Hall), h.carriage t = some c →
     let ended := fun o : RunOutcome =>
       if (h.tx t).state = .recycling then endCarriage e t (enterEnding e t o h) else enterEnding e t o h
     stopCarriage e t due pass h =
       match c.phase with
       | .onAir =>
         match if pass then passTarget h t due c else none with
         | some (x, b) => passOver e t c x b h
         | none => ended c.outcome
       | .keying | .rfDown => ended (if c.aired then .cut else .missed)
       | .working | .ready => endWith e t (if c.aired then .cut else .missed) h
       | .ending => h) ∧
   (∀ (e : Env) (t : Nat) (c : Carriage) (o : RunOutcome) (h : Hall), t < 12 → h.carriage t = some c →
     enterEnding e t o h = rfOff e t (h.setCarriage t (some { c with phase := .ending, outcome := o })) ∧
     (enterEnding e t o h).carriage t = some { c with phase := .ending, outcome := o } ∧
     ((enterEnding e t o h).tx t).rfEnable = false) ∧
   (∀ (h : Hall) (number day t : Nat),
     serving h number day = some t ↔ t < 12 ∧ (∃ c, h.carriage t = some c ∧ c.booking = number ∧ c.day = day) ∧
       ∀ u, u < t → ∀ d, h.carriage u = some d → ¬ (d.booking = number ∧ d.day = day)) ∧
   (∀ (e : Env) (cue : Cue) (h : Hall), serving h cue.booking cue.day = none → takeStart e cue h = h) ∧
   ∀ (e : Env) (cue : Cue) (t : Nat) (c : Carriage) (h : Hall), serving h cue.booking cue.day = some t →
     h.carriage t = some c →
     takeStart e cue h =
       if c.phase = .ready then rfOn e t c.power .carriage (h.setCarriage t (some { c with phase := .keying })) else h) ∧
  ((∀ (h : Hall) (t due : Nat) (c : Carriage),
     let fits := fun (x : Cue) (b : Booking) => x ∈ h.lookahead.cues ∧ x.carry = true ∧ x.kind = .start ∧
       x.transmitter = t ∧ x.due = due ∧ h.booking x.booking = some b ∧ b.fields.antenna = c.antenna ∧
       b.fields.setting = c.setting ∧ b.fields.frequency = c.frequency ∧ (h.antenna c.antenna).suspect = false ∧
       (h.antenna c.antenna).lock = .free ∧ (h.tx t).state = .serving
     (∀ x b, passTarget h t due c = some (x, b) → fits x b) ∧ (passTarget h t due c = none → ∀ x b, ¬ fits x b)) ∧
   ∀ (e : Env) (t : Nat) (c : Carriage) (x : Cue) (b : Booking) (h : Hall), t < 12 →
     (passOver e t c x b h).carriage t = some
       { c with booking := x.booking, day := x.day, start := startOn b.fields x.day, stop := endOn b.fields x.day
                power := b.fields.power, lead := 0, substituted := false, tripUsed := false, breakBegan := none
                lateSeconds := 0, outcome := .aired, said := x.said } ∧
     (∀ u, u ≠ t → (passOver e t c x b h).carriage u = h.carriage u) ∧
     (passOver e t c x b h).matrix = h.matrix ∧ ((passOver e t c x b h).tx t).rfEnable = (h.tx t).rfEnable ∧
     ∀ r ∈ (passOver e t c x b h).table.records, r.fields.number = c.booking → r.outcome = c.outcome) ∧
  ((∀ (e : Env) (cue : Cue) (h : Hall),
     (∀ t, serving h cue.booking cue.day = some t → takeStop e cue h = stopCarriage e t cue.due true h) ∧
     (serving h cue.booking cue.day = none → takeStop e cue h = stopWaiting e cue.booking cue.day h)) ∧
   (∀ (e : Env) (number day t : Nat) (h : Hall), t < 12 →
     let its := fun w : Waiting => w.booking == number && w.day == day
     (h.waitingList t).any its = true → (∀ u, u < t → (h.waitingList u).any its = false) →
       stopWaiting e number day h =
         settleOutcome e number .missed (h.setWaiting t ((h.waitingList t).filter fun w => !its w))) ∧
   (∀ (e : Env) (number day : Nat) (h : Hall),
     (∀ t, t < 12 → ∀ w ∈ h.waitingList t, ¬ (w.booking = number ∧ w.day = day)) → stopWaiting e number day h = h) ∧
   ∀ (e : Env) (cue : Cue) (h : Hall),
     (∀ t, serving h cue.booking cue.day = some t →
       takeCarryStart e cue h =
         writeOutcome cue.booking .aired (setLastRun cue.booking cue.day h)) ∧
     (serving h cue.booking cue.day = none → takeCarryStart e cue h = takePrepare e { cue with lead := 0 } h))

/-- A carriage that ends writes its outcome to its booking, posts MISSED or CUT, gives up its claim with the column's route and setting requests, withdraws its tune, and leaves its transmitter IDLE unless it is HELD or LOCAL, its trip count 0 (R95, R114, R127, R144). Of its tunes a pending one is dropped, one already sent runs on for no one, and one still held unsent is taken back, the tuned frequency as it was before and a pending LOCAL TUNE taken (R104, R106). Then the entries of the waiting list are reached in their order until one opens a carriage: one whose booking now names another transmitter, whose day no longer carries it or whose end has passed is settled MISSED; another is tried as a PREPARE is, a STOP in the list moved to its end time when it opens (R113, R127). A carriage whose RF is taken down by a contradiction, or whose RF enable is lost in KEYING or ON_AIR, enters ENDING, CUT when it has aired or by the contradiction and else MISSED: it waits for the RF OFF already sent, asks for one where none was, and ends at once when RF present is off (R69, R122, R128). HELD ends it at once, CUT when it has aired and else MISSED, one in ENDING with its outcome as it stands (R128). A report that finds no carriage does nothing, but that a transmitter newly HELD is refreshed (R51, R95). The model's choices: which RF OFF a carriage waits for (log 19), that a setting change still running for a released claim is told to no one by forgetting its claimant (log 27), that a waiting entry names its booking by number (log 50), a carriage too, so that one in ENDING writes its outcome to a record entered anew under the number (log 63), and that an entry dropped or refused lets the next be reached at once (log 67). -/
def Obligations.CarriageEndReleasesEverything : Prop :=
  (∀ (e : Env) (t : Nat) (c : Carriage) (h : Hall), t < 12 → h.carriage t = some c →
    let left := refresh e t (serviceOver e t c.booking (detach e t (settleOutcome e c.booking c.outcome h)))
    endCarriage e t h = reachEntries e t (h.waitingList t) left ∧
    left.carriage t = none ∧ (∀ u, u ≠ t → left.carriage u = h.carriage u) ∧ left.waitingList t = h.waitingList t ∧
    ((∀ a b, h.claim a = some t → h.claim b = some t → a = b) → claimOf left t = none) ∧
    ((claimOf h t).isSome = true → left.route t = none) ∧
    ((∀ a b, h.claim a = some t → h.claim b = some t → a = b) → ∀ a, a < 25 → h.claim a = some t →
      left.claim a = none ∧ (left.antenna a).wanted = none) ∧
    left.tx t =
      { (withdrawTune e t h).tx t with
        state := if (h.tx t).state = .held ∨ (h.tx t).state = .console then (h.tx t).state else .idle } ∧
    (left.tx t).state = (if (h.tx t).state = .held ∨ (h.tx t).state = .console then (h.tx t).state else .idle) ∧
    (left.monitor t).tripCount = 0 ∧ (left.monitor t).window = [] ∧ (left.monitor t).recycle = none ∧
    (∀ r ∈ left.table.records, r.fields.number = c.booking → r.outcome = c.outcome) ∧
    (c.outcome = .missed → read left.attention.planning EventKind.missed.bit = some c.booking) ∧
    (c.outcome = .cut → read left.attention.planning EventKind.cut.bit = some c.booking)) ∧
  (∀ (e : Env) (t : Nat) (h : Hall), t < 12 →
    let kept := h.setTx t fun x => { x with pendingTune := x.pendingTune.filter fun p => decide (p.requester ≠ .carriage) }
    withdrawTune e t h =
      match (h.tx t).tune with
      | none => kept
      | some u =>
        if u.requester ≠ some .carriage then kept
        else if u.ends ≠ none then kept.setTx t fun x => { x with tune := some { u with requester := none } }
        else takePendingTune e t (kept.setTx t fun x => { x with tune := none, tuned := u.origin })) ∧
  (∀ (e : Env) (t : Nat) (h : Hall), t < 12 →
    let free := withdrawTune e t
      (match (List.range 25).find? fun a => h.claim a == some t with
       | some a => releaseClaim t a h
       | none => h)
    let gone := { free.setCarriage t none with keyAgain := free.keyAgain.filter fun u => u != t }
    let idle := gone.setTx t fun x =>
      { x with state := if x.state = .held ∨ x.state = .console then x.state else .idle }
    detach e t h = idle.setMonitor t fun m =>
      { m with tripCount := 0, tripRun := 0, warnRun := 0, recycle := none, cleanRun := none, window := [], tripAntenna := none }) ∧
  (∀ (t a : Nat) (h : Hall),
    releaseClaim t a h = (withdrawRoute t (h.setClaim a none)).setAntenna a fun x =>
      { x with wanted := none, change := x.change.map fun ch => { ch with sentBy := none } }) ∧
  (∀ (e : Env) (t : Nat) (c : Carriage) (o : RunOutcome) (h : Hall), h.carriage t = some c →
    let lost : RunOutcome := if c.aired then .cut else .missed
    let ending := h.setCarriage t (some { c with phase := .ending, outcome := o })
    endWith e t o h = endCarriage e t (h.setCarriage t (some { c with outcome := o })) ∧
    endingForSent e t o h =
      (if (h.tx t).rfOn ≠ none then rfOff e t ending
       else if e.rfPresent t = false then endCarriage e t ending
       else if (h.tx t).rfDown ≠ none then ending
       else rfOff e t ending) ∧
    takeReport e (.cut t) h = (if c.phase = .ending then h else endingForSent e t .cut h) ∧
    takeReport e (.enableLost t) h =
      (if c.phase = .keying ∨ c.phase = .onAir then endingForSent e t lost h else h) ∧
    takeReport e (.held t) h = if c.phase = .ending then endCarriage e t h else endWith e t lost h) ∧
  (∀ (e : Env) (t a f : Nat) (x : Setting) (why : RouteFailure) (who : Requester) (h : Hall), h.carriage t = none →
    (∀ r ∈ ([.rfOff t, .rfUp t, .interlock t who, .tuneDone t f, .routeDone t a, .routeFailed t a why,
        .settingDone t a x, .settingFailed t a, .rowBlocked t, .columnBlocked t a, .cut t, .enableLost t] : List Report),
      takeReport e r h = h) ∧
    takeReport e (.held t) h = refresh e t h) ∧
  (∀ (e : Env) (t : Nat) (w : Waiting) (rest : List Waiting) (h : Hall),
    reachEntries e t [] h = h ∧
    reachEntries e t (w :: rest) h =
      (let reached := reachEntry e t w (h.setWaiting t rest)
       if (reached.carriage t).isSome = true then reached else reachEntries e t rest reached)) ∧
  ∀ (e : Env) (t : Nat) (w : Waiting) (b : Booking) (h : Hall), h.booking w.booking = some b →
    let tried := tryOpen e t b.fields w h
    let stop := tried.lookahead.cues.find? fun c => c.booking == w.booking && c.day == w.day && c.kind == .stop
    reachEntry e t w h =
      if b.fields.transmitter ≠ t ∨ carriesDay h.calendar.entries b.fields w.day = false ∨
          endOn b.fields w.day ≤ e.now then settleOutcome e w.booking .missed h
      else if (tried.carriage t).isSome = true ∧ stop.any (·.due != endOn b.fields w.day) = true then
        moveStop e t w.booking w.day (endOn b.fields w.day) tried
      else tried

/-- TAKE AMENDMENT and DROP AMENDMENT: FORMAT and UNKNOWN in order, then the parked amendment applied, the occurrence on air continuing where the new fields still carry it and stopped where they do not, or dropped (R151 to R153). An occurrence that continues takes the new fields, moves its STOP, resolves its antenna again with the column it claims counted usable, posted SUBSTITUTED on the alternate, and is prepared again with RF OFF asked for, tuned again for another frequency; with neither antenna usable it is stopped (R130, R152; that the claimed column is usable whatever its mark is log 33's reading, and that break began becomes now also when a break already runs is log 17's). A day carries an occurrence when its weekday is in the days set, the season live on it is the booking's and it lies within the date limits given (R3, the first three conditions). A usable column is that of R117. -/
def Obligations.ParkedAmendmentTakenOrDropped : Prop :=
  (∀ (entries : List SeasonEntry) (b : Offered) (day : Nat),
     carriesDay entries b day = true ↔
       (∃ _ : day % 7 < 7, b.days[day % 7] = true) ∧ liveOn entries day = some b.season ∧
       (∀ f, b.firstDay = some f → f ≤ day) ∧ ∀ l, b.lastDay = some l → day ≤ l) ∧
  (∀ (e : Env) (h : Hall) (t a : Nat),
     usable e h t a = true ↔
       (e.antConfig a).present = true ∧ (h.antenna a).lock = .free ∧ (h.antenna a).suspect = false ∧
       (∀ r, r < 12 → h.xp r a ≠ .stuck) ∧ (∀ u, h.claim a = some u → u = t) ∧
       ∀ r, colRoute h a = some r → r ≠ t →
         h.carriage r = none ∧ (h.tx r).state ≠ .console ∧ e.rfPresent r = false) ∧
  (∀ (s : State) (tag : Byte) (k : Nat), s.takes .console = true →
    (exec (.takeAmendment tag (.fields k)) s =
      if 11 < k then answers s .console 34 tag .format
      else if s.hall.slotOf k = none then answers s .console 34 tag .unknown
      else takes s .console 34 tag fun h =>
        let applied := applyParked s.env k h
        match applied.carriage k with
        | none => applied
        | some c =>
          if c.phase = .ending then applied
          else match applied.booking c.booking with
            | none => applied
            | some b =>
              if b.fields.transmitter = k ∧ carriesDay applied.calendar.entries b.fields c.day = true ∧
                  startOn b.fields c.day ≤ s.env.now ∧ s.env.now < endOn b.fields c.day then
                carryOn s.env k c b.fields applied
              else enterEnding s.env k (if c.aired then .cut else .missed)
                (dropCues s.env k c.booking c.day applied)) ∧
    (exec (.dropAmendment tag (.fields k)) s =
      if 11 < k then answers s .console 35 tag .format
      else if s.hall.slotOf k = none then answers s .console 35 tag .unknown
      else takes s .console 35 tag (dropParked s.env k))) ∧
  (∀ (e : Env) (t : Nat) (p : Offered) (h : Hall), t < 12 → h.slotOf t = some p →
    ((dropParked e t h).slotOf t = none ∧ (dropParked e t h).table = h.table ∧
     (dropParked e t h).attention = h.attention.post e.mask .amendmentDropped p.number) ∧
    ((applyParked e t h).slotOf t = none ∧
     (applyParked e t h).table.records =
       h.table.records.map (fun r => if r.fields.number = p.number then { r with fields := p, state := .active } else r) ∧
     read (applyParked e t h).attention.planning EventKind.amendmentApplied.bit = some p.number)) ∧
  ∀ (e : Env) (t : Nat) (c : Carriage) (b : Offered) (h : Hall), t < 12 → h.carriage t = some c →
    let kept := { c with start := startOn b c.day, stop := endOn b c.day, frequency := b.frequency, power := b.power
                         setting := b.setting }
    let moved := moveStop e t c.booking c.day (endOn b c.day) (h.setCarriage t (some kept))
    let ok := fun a => moved.claim a = some t ∨ usable e moved t a = true
    (¬ ok b.antenna → (∀ a, b.alternate = some a → ¬ ok a) →
      carryOn e t c b h =
        enterEnding e t (if c.aired then .cut else .missed) (dropCues e t c.booking c.day moved)) ∧
    ∀ a x, a < 25 →
      ((ok b.antenna ∧ a = b.antenna ∧ x = b.setting) ∨
       (¬ ok b.antenna ∧ b.alternate = some a ∧ ok a ∧ x = alternateSetting (e.antConfig a) b.setting)) →
      let settled := { kept with antenna := a, setting := x, substituted := decide (a ≠ b.antenna) }
      let down := { settled with breakBegan := if c.aired then some e.now else none, routeDone := false, settingDone := false
                                 tuneDone := c.tuneDone && decide (b.frequency = c.frequency), phase := .rfDown }
      let claimed := (grantClaim e t a moved).setCarriage t (some settled)
      let posted := if a = b.antenna then claimed else post e .substituted b.number claimed
      let broken := (refresh e t posted).setCarriage t (some down)
      carryOn e t c b h = rfOff e t (if (h.tx t).state = .recycling then
        (broken.setMonitor t fun m => { m with recycle := none }).setTx t fun y => { y with state := .serving }
        else broken) ∧
      (carryOn e t c b h).carriage t = some down ∧
      (carryOn e t c b h).claim a = some t ∧ ((carryOn e t c b h).tx t).rfEnable = false

/-! ## Hall control and start-up (09, 10) -/

/-- CONFIGURE HALL, TRANSMITTER and ANTENNA: FORMAT out of range, MODE outside CONFIGURING, IN_USE where a booking would no longer fit, or for another guard spacing over a table that is not empty; else the record is replaced (R81, R93, R171, R173). CONFIGURE HALL always answers with the hall record and the mode. A write that makes a transmitter present or absent gives its live part and its monitor record their first values, another leaves them, the displayed ratio and the latest reflection of a transmitter evaluated before among the first values (R133, where R138 and R145 differ: the model's reading, log 77); one made present is sent a status request, and RF OFF with its RF-down watch where it has reported RF present (R93, R133); that an absent transmitter keeps a record is log 1's choice; for the test load only present and power rating are taken (R81), every field offered being judged all the same, log 53's choice. A record is in range exactly as Table 36 (R170), Table 19 (R93) and Table 17 (R81) give: a guard spacing that is a multiple of 5 and a warn VSWR below the trip VSWR; a min frequency below the max; band windows each low below its high, in ascending order and apart. A booking fits a transmitter it names when that is present, with the frequency within its limits and the power within its rating, and an antenna when that is present, with the frequency in a window and the power within its rating, as main antenna with the setting within its capability too; the booking named is the lowest that does not fit (R173). -/
def Obligations.ConfigurationWrites : Prop :=
  ((∀ r : HallRecord, hallRecordOk r = true ↔
      r.nearlyFull ≤ 256 ∧ (5 ≤ r.guard ∧ r.guard ≤ 100 ∧ 5 ∣ r.guard) ∧ (15 ≤ r.horizon ∧ r.horizon ≤ 360) ∧
      r.margin ≤ 60 ∧ (2 ≤ r.travel ∧ r.travel ≤ 20) ∧ (5 ≤ r.tuneGrace ∧ r.tuneGrace ≤ 120) ∧
      (16 ≤ r.floor ∧ r.floor ≤ 255) ∧ (12 ≤ r.tripVswr ∧ r.tripVswr ≤ 30) ∧
      (11 ≤ r.warnVswr ∧ r.warnVswr < r.tripVswr) ∧ (2 ≤ r.recycleDelay ∧ r.recycleDelay ≤ 60) ∧
      r.retryLimit ≤ 5 ∧ 1 ≤ r.cleanRun ∧ r.cleanRun ≤ 30) ∧
   (∀ c : TxConfig, txConfigOk c = true ↔
      (2300 ≤ c.minFreq ∧ c.minFreq ≤ 26100 ∧ 5 ∣ c.minFreq) ∧ (2300 ≤ c.maxFreq ∧ c.maxFreq ≤ 26100 ∧ 5 ∣ c.maxFreq) ∧
      c.minFreq < c.maxFreq ∧ (10 ≤ c.rated ∧ c.rated ≤ 600) ∧ (5 ≤ c.tuneBase ∧ c.tuneBase ≤ 120) ∧
      c.tuneRate ≤ 600 ∧ 1 ≤ c.rfDown ∧ c.rfDown ≤ 30) ∧
   ∀ c : AntConfig, antConfigOk c = true ↔
      c.bearing ≤ 359 ∧ (10 ≤ c.rating ∧ c.rating ≤ 600) ∧ (1 ≤ c.windows.length ∧ c.windows.length ≤ 4) ∧
      (∀ w ∈ c.windows, (2300 ≤ w.low ∧ w.low ≤ 26100 ∧ 5 ∣ w.low) ∧ (2300 ≤ w.high ∧ w.high ≤ 26100 ∧ 5 ∣ w.high) ∧
        w.low < w.high) ∧
      (c.windows.Pairwise fun x y => x.high < y.low) ∧ c.maxSlew ≤ 6 ∧ 1 ≤ c.settingTime ∧ c.settingTime ≤ 60) ∧
  (∀ (e : Env) (k : Nat) (b : Offered),
    (fitsTx e k b = true ↔ (b.transmitter = k → (e.txConfig k).present = true ∧ (e.txConfig k).minFreq ≤ b.frequency ∧
      b.frequency ≤ (e.txConfig k).maxFreq ∧ b.power ≤ (e.txConfig k).rated)) ∧
    (fitsAnt e k b = true ↔
      let carries := (e.antConfig k).present = true ∧
        (∃ w ∈ (e.antConfig k).windows, w.low ≤ b.frequency ∧ b.frequency ≤ w.high) ∧ b.power ≤ (e.antConfig k).rating
      (b.antenna = k → carries ∧ b.setting.slew.natAbs ≤ (e.antConfig k).maxSlew ∧
        (b.setting.dir = .reverse → (e.antConfig k).reversible = true)) ∧
      (b.alternate = some k → carries))) ∧
  (∀ (h : Hall) (fits : Offered → Bool) (n : Nat), (h.table.records.map (·.fields.number)).Pairwise (· < ·) →
    (lowestUnfit h fits = some n ↔
      (∃ b ∈ h.table.records, b.fields.number = n ∧ fits b.fields = false) ∧
      ∀ b ∈ h.table.records, fits b.fields = false → n ≤ b.fields.number) ∧
    (lowestUnfit h fits = none ↔ ∀ b ∈ h.table.records, fits b.fields = true)) ∧
  ∀ (s : State) (tag : Byte), s.takes .planning = true →
    (∀ r : HallRecord,
      let e := { s.env with config := { s.env.config with hall := r } }
      let refused := fun code : ResultCode => Host.Outcome.next (s.reply .planning 15 tag
        (some { result := code, body := .hall s.env.config.hall s.env.mode }))
      exec (.configureHall tag (.fields r)) s =
        if hallRecordOk r = false then refused .format
        else if s.env.mode ≠ .configuring then refused .mode
        else if r.guard ≠ s.env.config.hall.guard ∧ s.hall.table.records ≠ [] then refused .inUse
        else .next (State.reply
          (if r.nearlyFull = s.env.config.hall.nearlyFull then { s with env := e }
           else State.act { s with env := e } (nearlyFullTest e)) .planning 15 tag
          (some { result := .done, body := .hall r s.env.mode }))) ∧
    (∀ w : TxWrite, exec (.configureTransmitter tag (.fields w)) s =
      if 11 < w.transmitter ∨ txConfigOk w.config = false then answers s .planning 18 tag .format
      else if s.env.mode ≠ .configuring then answers s .planning 18 tag .mode
      else match lowestUnfit s.hall (fitsTx (withTx s.env w) w.transmitter) with
        | some n => .next (s.reply .planning 18 tag (some { result := .inUse, body := .booking n false }))
        | none => takes { s with env := freshPair s.env (withTx s.env w) w.transmitter } .planning 18 tag
            (startOrDiscardTx s.env (withTx s.env w) w.transmitter)) ∧
    (∀ w : AntWrite, exec (.configureAntenna tag (.fields w)) s =
      if 24 < w.antenna ∨ antConfigOk w.config = false then answers s .planning 19 tag .format
      else if s.env.mode ≠ .configuring then answers s .planning 19 tag .mode
      else match lowestUnfit s.hall (fitsAnt (withAnt s.env w) w.antenna) with
        | some n => .next (s.reply .planning 19 tag (some { result := .inUse, body := .booking n false }))
        | none => takes { s with env := withAnt s.env w } .planning 19 tag fun h => h) ∧
    (∀ w : TxWrite, w.transmitter < 12 → (withTx s.env w).txConfig w.transmitter = w.config ∧
      ∀ u, u ≠ w.transmitter → (withTx s.env w).txConfig u = s.env.txConfig u) ∧
    (∀ (w : TxWrite) (h : Hall), w.transmitter < 12 →
      let t := w.transmitter
      let pairs := (freshPair s.env (withTx s.env w) t).inputs.pairs
      let left := startOrDiscardTx s.env (withTx s.env w) t h
      ((s.env.txConfig t).present = w.config.present →
        freshPair s.env (withTx s.env w) t = withTx s.env w ∧ left = h) ∧
      ((s.env.txConfig t).present ≠ w.config.present →
        read pairs t = (0, 0) ∧ (∀ u, u ≠ t → read pairs u = read s.env.inputs.pairs u) ∧
        left.monitor t = Monitor.start ∧ (left.tx t).mode = .remote ∧ (left.tx t).state = .idle ∧
        (left.tx t).tuned = none ∧ (left.tx t).power = none ∧ (left.tx t).tune = none ∧
        (left.tx t).rfEnable = false ∧ (∀ u, u ≠ t → left.tx u = h.tx u ∧ left.monitor u = h.monitor u) ∧
        left.orders = h.orders ++ (if w.config.present = true then
          .statusRequest t :: (if s.env.rfPresent t = true then [.rfOff t] else []) else []) ∧
        (left.tx t).rfDown = (if w.config.present = true ∧ s.env.rfPresent t = true then
          some (s.env.timebase + (w.config.rfDown + 5) * 1000) else none))) ∧
    ∀ w : AntWrite, w.antenna < 25 →
      (w.antenna < 24 → (withAnt s.env w).antConfig w.antenna = w.config) ∧
      (w.antenna = 24 → (withAnt s.env w).antConfig 24 =
        { Config.antDefaults with present := w.config.present, rating := w.config.rating }) ∧
      ∀ a, a ≠ w.antenna → (withAnt s.env w).antConfig a = s.env.antConfig a

/-- COMMISSION from CONFIGURING, with its checks in order, the last that every booking passes the RANGE, BAND, POWER and SETTING checks, the first it fails giving the code; HALL STOP from RUNNING; HALL RESUME and RECONFIGURE from STOPPED, RECONFIGURE not while a carriage is left; each but COMMISSION DONE without effect in the mode it would bring (R167, R169, R172, R174, R175). A carriage cut by HALL STOP enters the resume list once and is cut: at once in WORKING or READY, through ENDING with RF OFF otherwise; one already ENDING is left (R167, R168). Then RF enable is tested for every transmitter and RF OFF sent to each present one in mode REMOTE (R97, R167). The resume scan takes each entry of the resume list that has not been readmitted and is not over: it leaves the list when its transmitter is HELD or LOCAL, and is else marked and readmitted (R169). That the mode is already STOPPED while the carriages are cut, which R167 sets in a later step, is the model's deduction (log 14), and so are the orders by transmitter in which the carriages are cut, RF enable is tested and RF OFF is sent (logs 59 and 62) and by joining in which the entries are taken (log 60). -/
def Obligations.HallModesAndStop : Prop :=
  (∀ (e : Env) (b : Offered),
     unfit e b = (([(!rangeOk e b, .range), (!bandOk e b, .band), (!powerOk e b, .power), (!settingOk e b, .setting)] :
       List (Bool × ResultCode)).find? (·.1)).map (·.2)) ∧
  ((∀ (s : State) (tag : Byte), s.takes .planning = true →
     (exec (.commission tag (.fields ())) s =
       if s.env.mode ≠ .configuring then answers s .planning 16 tag .mode
       else if s.env.clock.status = .unset then answers s .planning 16 tag .unknown
       else if (∀ t ∈ List.range 12, (s.env.txConfig t).present = false) ∨
           (∀ a ∈ List.range 25, (s.env.antConfig a).present = false) then answers s .planning 16 tag .range
       else match s.hall.table.records.findSome? fun r => (unfit s.env r.fields).map fun code => (code, r.fields.number) with
         | some (code, n) => .next (s.reply .planning 16 tag (some { result := code, body := .booking n false }))
         | none =>
           let e := { s.env with mode := .running }
           takes { s with env := e } .planning 16 tag fun h => resumeScan e (rescan e h)) ∧
     exec (.reconfigure tag (.fields ())) s =
       match s.env.mode with
       | .running => answers s .planning 17 tag .mode
       | .configuring => answers s .planning 17 tag .done
       | .stopped =>
         if ∃ t ∈ List.range 12, s.hall.carriage t ≠ none then answers s .planning 17 tag .busy
         else takes { s with env := { s.env with mode := .configuring } } .planning 17 tag fun h =>
           { h with lookahead := { cues := [], readmit := [], short := false }, resume := [] }) ∧
   ∀ (s : State) (tag : Byte), s.takes .console = true →
     (exec (.hallStop tag (.fields ())) s =
       match s.env.mode with
       | .configuring => answers s .console 36 tag .mode
       | .stopped => answers s .console 36 tag .done
       | .running =>
         let e := { s.env with mode := .stopped }
         takes { s with env := e } .console 36 tag fun h =>
           post e .hallStopped 0 (forEach allRows (stopRf e) (enforceRf e (forEach allRows (stopOne e) h)))) ∧
     exec (.hallResume tag (.fields ())) s =
       match s.env.mode with
       | .configuring => answers s .console 37 tag .mode
       | .running => answers s .console 37 tag .done
       | .stopped =>
         let e := { s.env with mode := .running }
         takes { s with env := e } .console 37 tag fun h => rescan e (resumeScan e h)) ∧
  (∀ (e : Env) (t : Nat) (c : Carriage) (h : Hall), t < 12 → h.carriage t = some c →
     (c.phase = .ending → stopOne e t h = h) ∧
     (c.phase ≠ .ending → c.phase ≠ .working → c.phase ≠ .ready →
       (stopOne e t h).carriage t = some { c with phase := .ending, outcome := .cut } ∧
       ((stopOne e t h).tx t).rfEnable = false ∧
       ∃ r ∈ (stopOne e t h).resume, r.booking = c.booking ∧ r.day = c.day) ∧
     (c.phase = .working ∨ c.phase = .ready →
       stopOne e t h = endWith e t .cut { h with resume := addResume c.booking c.day h.resume })) ∧
  (∀ (e : Env) (t : Nat) (h : Hall),
     stopRf e t h = (if (e.txConfig t).present = true ∧ (h.tx t).mode = .remote then rfOff e t h else h) ∧
     enforceRf e h = (List.range 12).foldl (fun h t => enforceOne e t h) h ∧
     enforceOne e t h =
       if (h.tx t).rfEnable = true ∧ mayRadiate e h t ((h.tx t).power.getD 0) = false then
         if (h.carriage t).isSome = true then raise (.enableLost t) (rfOff e t h) else rfOff e t h
       else h) ∧
  (∀ (number day : Nat) (l : List Resume),
     addResume number day l =
       if ∃ r ∈ l, r.booking = number ∧ r.day = day then l
       else l.filter (fun r => r.booking != number) ++ [{ booking := number, day := day, resumed := false }]) ∧
  (∀ (e : Env) (h : Hall), resumeScan e h = h.resume.foldl (fun h r => resumeOne e r h) h) ∧
  ∀ (e : Env) (r : Resume) (h : Hall),
    (h.booking r.booking = none → resumeOne e r h = h) ∧
    ∀ b, h.booking r.booking = some b → resumeOne e r h =
      if r.resumed = true ∨ endOn b.fields r.day ≤ e.now then h
      else if (h.tx b.fields.transmitter).state = .held ∨ (h.tx b.fields.transmitter).mode = .console then
        { h with resume := h.resume.filter fun y => y.booking != r.booking }
      else readmit e r.booking r.day
        { h with resume := h.resume.map fun y => if y.booking = r.booking then { y with resumed := true } else y }

/-- A cold start, at whatever time of the timebase, leaves everything as State.reset has it with the survey's limit 2 s on and the start-up as the clock's last advance, but for the hall address read, the queue and the model's own counter (R178). A warm restart keeps configuration, mode, mask, locks, marks, LOCAL and HELD; the records that stay are exactly the ACTIVE ones of seasons that have not ended, unchanged; the calendar keeps its entries but for ended seasons, and finds the live season anew; the clock is the counter's value, HOLDOVER where it was ever set and else UNSET, its pending setting gone (R4, R24, R40, R42, R176, R179). It starts without carriages, claims, cues or RF enable, its survey ordered, status request and RF OFF sent to every present transmitter with the RF-down watch running, RESTARTED posted (R89, R94, R179). A start-up on the main supply or on the restart input's release is warm exactly when the retention domain is intact; the restart input and the loss of the main supply withdraw every RF enable at once (R176, R177). The model's choices: the values State.reset holds where the book gives none, among them those of the crosspoints before their reports and of the receivers (logs 1, 6, 22); RF enable withdrawn at the loss of the main supply too, R177 speaking of the restart input alone (log 20); the timebase brought up to five seconds after the assertion (log 3); what a start-up finds given as operands of its command, the counter's value as the clock's value plus the seconds counted (log 21); a part without supply that starts running when the supply rises and takes no note of the restart input till then (log 68). -/
def Obligations.StartUpsAndRetention : Prop :=
  (∀ (s : State) (i : StartInputs), s.power = .absent →
    exec (.powerUp i) s = .next (if i.intact then warmStart i s else coldStart i.address s)) ∧
  (∀ (s : State) (i : StartInputs), s.power ≠ .absent → exec (.powerUp i) s = .next s) ∧
  (∀ (s : State) (i : StartInputs) (since : Nat), s.power = .halted since →
    exec (.restartReleased i) s = .next (if i.intact then warmStart i s else coldStart i.address s)) ∧
  (∀ (s : State) (address since : Nat), s.power = .halted since →
    exec (.restartHeld5s address) s = .next (coldStart address
      { s with env := { s.env with timebase := max s.env.timebase (since + 5000) } })) ∧
  (∀ s : State, s.power = .running → ∃ t, exec .restartAsserted s = .next t ∧ t.power = .halted s.env.timebase ∧
    (∀ k, k < 12 → t.hall.tx k = { s.hall.tx k with rfEnable := false }) ∧
    t = { s with power := t.power, hall := { s.hall with txs := t.hall.txs } }) ∧
  (∀ s : State, s.power ≠ .absent → ∃ t, exec .mainSupplyLoss s = .next t ∧ t.power = .absent ∧
    (∀ k, k < 12 → t.hall.tx k = { s.hall.tx k with rfEnable := false }) ∧
    t = { s with power := t.power, hall := { s.hall with txs := t.hall.txs } }) ∧
  (∀ (s : State) (address : Nat),
    let clock := State.reset.env.clock
    let matrix := State.reset.hall.matrix
    coldStart address s =
      { State.reset with
        env := { State.reset.env with timebase := s.env.timebase, clock := { clock with lastAdvance := s.env.timebase } }
        hall := { State.reset.hall with
          matrix := { matrix with survey := matrix.survey.map fun v => { v with limit := s.env.timebase + 2000 } } }
        links := { State.reset.links with address := address, addressLines := address, draws := s.links.draws }
        pending := s.pending }) ∧
  (∀ (s : State) (i : StartInputs), CollectionsOk s.hall →
    let day := (warmStart i s).env.clock.day
    let ended := fun season => s.env.clock.everSet && endedOn s.hall.calendar.entries season day
    (∀ r, r ∈ (warmStart i s).hall.table.records ↔
      r ∈ s.hall.table.records ∧ r.state = .active ∧ ended r.fields.season = false) ∧
    (warmStart i s).hall.calendar.entries = s.hall.calendar.entries.filter fun x => !ended x.id) ∧
  (∀ (s : State) (i : StartInputs),
    (warmStart i s).hall.calendar.live =
      liveOn s.hall.calendar.entries (warmStart i s).env.clock.day ∧
    (warmStart i s).env.clock.day * 86400 + (warmStart i s).env.clock.second =
      min (s.env.clock.day * 86400 + s.env.clock.second + i.counted) (65535 * 86400 + 86399) ∧
    (warmStart i s).env.timebase = s.env.timebase ∧ .survey ∈ (warmStart i s).hall.orders ∧
    (warmStart i s).hall.matrix.survey =
      some { unreported := allCrosspoints, limit := s.env.timebase + 2000, warm := true, held := [] } ∧
    (∀ a, (warmStart i s).hall.claim a = none) ∧
    ∀ k, k < 12 → (s.env.txConfig k).present = true →
      .statusRequest k ∈ (warmStart i s).hall.orders ∧ .rfOff k ∈ (warmStart i s).hall.orders ∧
      ((warmStart i s).hall.tx k).rfDown = some (s.env.timebase + ((s.env.txConfig k).rfDown + 5) * 1000) ∧
      (warmStart i s).env.rfPresent k = true ∧
      ((warmStart i s).hall.tx k).tuned = none ∧ ((warmStart i s).hall.tx k).power = none ∧
      ((s.hall.tx k).state ≠ .held → ((warmStart i s).hall.tx k).state =
        if (s.hall.tx k).mode = .console then .console else .idle)) ∧
  ∀ (s : State) (i : StartInputs),
    (warmStart i s).env.config = s.env.config ∧ (warmStart i s).env.mode = s.env.mode ∧
    (warmStart i s).env.mask = s.env.mask ∧ (warmStart i s).power = .running ∧
    ((warmStart i s).env.clock.status = if s.env.clock.everSet then .holdover else .unset) ∧
    (warmStart i s).env.clock.setting = none ∧
    (∀ k, (warmStart i s).hall.carriage k = none ∧ (warmStart i s).hall.waitingList k = [] ∧
      (warmStart i s).hall.slotOf k = none) ∧
    (∀ k, k < 12 → (s.env.txConfig k).present = true →
      ((warmStart i s).hall.tx k).mode = (s.hall.tx k).mode ∧ ((warmStart i s).hall.tx k).rfEnable = false ∧
      ((s.hall.tx k).state = .held → ((warmStart i s).hall.tx k).state = .held ∧
        ((warmStart i s).hall.tx k).reason = (s.hall.tx k).reason)) ∧
    (∀ a, a < 25 → ((warmStart i s).hall.antenna a).lock = (s.hall.antenna a).lock ∧
      ((warmStart i s).hall.antenna a).suspect = (s.hall.antenna a).suspect) ∧
    (∀ r ∈ (warmStart i s).hall.table.records, r ∈ s.hall.table.records ∧ r.state = .active) ∧
    (warmStart i s).hall.lookahead.cues = [] ∧ (warmStart i s).hall.resume = [] ∧
    read (warmStart i s).hall.attention.planning EventKind.restarted.bit = some 1 ∧
    read (warmStart i s).hall.attention.console EventKind.restarted.bit = some 1

/-! ## Invariants -/

/-- Every step keeps the form of the two collections: at most 1 024 records of distinct numbers, in ascending number; at most 4 calendar entries of distinct ids, in ascending first day (R4, R36). -/
def Obligations.CollectionsKeepTheirForm : Prop :=
  ∀ s t : State, CollectionsOk s.hall → step s = .next t → CollectionsOk t.hall

/-- Every step keeps the clock, its pending setting, the divisors and the hall address within their ranges (R25, R32, R181). -/
def Obligations.ClockAndLinkFieldsStayInRange : Prop :=
  ∀ s t : State, InRange s → step s = .next t → InRange t

/-- The part right after a cold start meets the three invariants that every step keeps. -/
def Obligations.ResetMeetsTheInvariants : Prop :=
  RfSafe State.reset ∧ CollectionsOk State.reset.hall ∧ InRange State.reset
end

