-- ==== Sys2Proof/Laws/State.lean ====
section
/-! SUPPORT. One lemma per field per update of the hall and of the state, true by unfolding, so that no later proof unfolds a record update. -/

namespace Sys2Proof.Machine

/-! ## setTx -/

@[simp] theorem setTx_table (h : Hall) (t : Nat) (f : Tx → Tx) : (h.setTx t f).table = h.table := rfl
@[simp] theorem setTx_calendar (h : Hall) (t : Nat) (f : Tx → Tx) : (h.setTx t f).calendar = h.calendar := rfl
@[simp] theorem setTx_lookahead (h : Hall) (t : Nat) (f : Tx → Tx) : (h.setTx t f).lookahead = h.lookahead := rfl
@[simp] theorem setTx_matrix (h : Hall) (t : Nat) (f : Tx → Tx) : (h.setTx t f).matrix = h.matrix := rfl
@[simp] theorem setTx_txs (h : Hall) (t : Nat) (f : Tx → Tx) : (h.setTx t f).txs = update h.txs t f := rfl
@[simp] theorem setTx_carriages (h : Hall) (t : Nat) (f : Tx → Tx) : (h.setTx t f).carriages = h.carriages := rfl
@[simp] theorem setTx_waiting (h : Hall) (t : Nat) (f : Tx → Tx) : (h.setTx t f).waiting = h.waiting := rfl
@[simp] theorem setTx_parked (h : Hall) (t : Nat) (f : Tx → Tx) : (h.setTx t f).parked = h.parked := rfl
@[simp] theorem setTx_monitors (h : Hall) (t : Nat) (f : Tx → Tx) : (h.setTx t f).monitors = h.monitors := rfl
@[simp] theorem setTx_attention (h : Hall) (t : Nat) (f : Tx → Tx) : (h.setTx t f).attention = h.attention := rfl
@[simp] theorem setTx_resume (h : Hall) (t : Nat) (f : Tx → Tx) : (h.setTx t f).resume = h.resume := rfl
@[simp] theorem setTx_orders (h : Hall) (t : Nat) (f : Tx → Tx) : (h.setTx t f).orders = h.orders := rfl
@[simp] theorem setTx_agenda (h : Hall) (t : Nat) (f : Tx → Tx) : (h.setTx t f).agenda = h.agenda := rfl
@[simp] theorem setTx_keyAgain (h : Hall) (t : Nat) (f : Tx → Tx) : (h.setTx t f).keyAgain = h.keyAgain := rfl

/-! ## setCarriage -/

@[simp] theorem setCarriage_table (h : Hall) (t : Nat) (c : Option Carriage) : (h.setCarriage t c).table = h.table := rfl
@[simp] theorem setCarriage_calendar (h : Hall) (t : Nat) (c : Option Carriage) : (h.setCarriage t c).calendar = h.calendar := rfl
@[simp] theorem setCarriage_lookahead (h : Hall) (t : Nat) (c : Option Carriage) : (h.setCarriage t c).lookahead = h.lookahead := rfl
@[simp] theorem setCarriage_matrix (h : Hall) (t : Nat) (c : Option Carriage) : (h.setCarriage t c).matrix = h.matrix := rfl
@[simp] theorem setCarriage_txs (h : Hall) (t : Nat) (c : Option Carriage) : (h.setCarriage t c).txs = h.txs := rfl
@[simp] theorem setCarriage_carriages (h : Hall) (t : Nat) (c : Option Carriage) : (h.setCarriage t c).carriages = write h.carriages t c := rfl
@[simp] theorem setCarriage_waiting (h : Hall) (t : Nat) (c : Option Carriage) : (h.setCarriage t c).waiting = h.waiting := rfl
@[simp] theorem setCarriage_parked (h : Hall) (t : Nat) (c : Option Carriage) : (h.setCarriage t c).parked = h.parked := rfl
@[simp] theorem setCarriage_monitors (h : Hall) (t : Nat) (c : Option Carriage) : (h.setCarriage t c).monitors = h.monitors := rfl
@[simp] theorem setCarriage_attention (h : Hall) (t : Nat) (c : Option Carriage) : (h.setCarriage t c).attention = h.attention := rfl
@[simp] theorem setCarriage_resume (h : Hall) (t : Nat) (c : Option Carriage) : (h.setCarriage t c).resume = h.resume := rfl
@[simp] theorem setCarriage_orders (h : Hall) (t : Nat) (c : Option Carriage) : (h.setCarriage t c).orders = h.orders := rfl
@[simp] theorem setCarriage_agenda (h : Hall) (t : Nat) (c : Option Carriage) : (h.setCarriage t c).agenda = h.agenda := rfl
@[simp] theorem setCarriage_keyAgain (h : Hall) (t : Nat) (c : Option Carriage) : (h.setCarriage t c).keyAgain = h.keyAgain := rfl

/-! ## mapCarriage -/

@[simp] theorem mapCarriage_table (h : Hall) (t : Nat) (f : Carriage → Carriage) : (h.mapCarriage t f).table = h.table := rfl
@[simp] theorem mapCarriage_calendar (h : Hall) (t : Nat) (f : Carriage → Carriage) : (h.mapCarriage t f).calendar = h.calendar := rfl
@[simp] theorem mapCarriage_lookahead (h : Hall) (t : Nat) (f : Carriage → Carriage) : (h.mapCarriage t f).lookahead = h.lookahead := rfl
@[simp] theorem mapCarriage_matrix (h : Hall) (t : Nat) (f : Carriage → Carriage) : (h.mapCarriage t f).matrix = h.matrix := rfl
@[simp] theorem mapCarriage_txs (h : Hall) (t : Nat) (f : Carriage → Carriage) : (h.mapCarriage t f).txs = h.txs := rfl
@[simp] theorem mapCarriage_carriages (h : Hall) (t : Nat) (f : Carriage → Carriage) : (h.mapCarriage t f).carriages = write h.carriages t ((h.carriage t).map f) := rfl
@[simp] theorem mapCarriage_waiting (h : Hall) (t : Nat) (f : Carriage → Carriage) : (h.mapCarriage t f).waiting = h.waiting := rfl
@[simp] theorem mapCarriage_parked (h : Hall) (t : Nat) (f : Carriage → Carriage) : (h.mapCarriage t f).parked = h.parked := rfl
@[simp] theorem mapCarriage_monitors (h : Hall) (t : Nat) (f : Carriage → Carriage) : (h.mapCarriage t f).monitors = h.monitors := rfl
@[simp] theorem mapCarriage_attention (h : Hall) (t : Nat) (f : Carriage → Carriage) : (h.mapCarriage t f).attention = h.attention := rfl
@[simp] theorem mapCarriage_resume (h : Hall) (t : Nat) (f : Carriage → Carriage) : (h.mapCarriage t f).resume = h.resume := rfl
@[simp] theorem mapCarriage_orders (h : Hall) (t : Nat) (f : Carriage → Carriage) : (h.mapCarriage t f).orders = h.orders := rfl
@[simp] theorem mapCarriage_agenda (h : Hall) (t : Nat) (f : Carriage → Carriage) : (h.mapCarriage t f).agenda = h.agenda := rfl
@[simp] theorem mapCarriage_keyAgain (h : Hall) (t : Nat) (f : Carriage → Carriage) : (h.mapCarriage t f).keyAgain = h.keyAgain := rfl

/-! ## setWaiting -/

@[simp] theorem setWaiting_table (h : Hall) (t : Nat) (l : List Waiting) : (h.setWaiting t l).table = h.table := rfl
@[simp] theorem setWaiting_calendar (h : Hall) (t : Nat) (l : List Waiting) : (h.setWaiting t l).calendar = h.calendar := rfl
@[simp] theorem setWaiting_lookahead (h : Hall) (t : Nat) (l : List Waiting) : (h.setWaiting t l).lookahead = h.lookahead := rfl
@[simp] theorem setWaiting_matrix (h : Hall) (t : Nat) (l : List Waiting) : (h.setWaiting t l).matrix = h.matrix := rfl
@[simp] theorem setWaiting_txs (h : Hall) (t : Nat) (l : List Waiting) : (h.setWaiting t l).txs = h.txs := rfl
@[simp] theorem setWaiting_carriages (h : Hall) (t : Nat) (l : List Waiting) : (h.setWaiting t l).carriages = h.carriages := rfl
@[simp] theorem setWaiting_waiting (h : Hall) (t : Nat) (l : List Waiting) : (h.setWaiting t l).waiting = write h.waiting t l := rfl
@[simp] theorem setWaiting_parked (h : Hall) (t : Nat) (l : List Waiting) : (h.setWaiting t l).parked = h.parked := rfl
@[simp] theorem setWaiting_monitors (h : Hall) (t : Nat) (l : List Waiting) : (h.setWaiting t l).monitors = h.monitors := rfl
@[simp] theorem setWaiting_attention (h : Hall) (t : Nat) (l : List Waiting) : (h.setWaiting t l).attention = h.attention := rfl
@[simp] theorem setWaiting_resume (h : Hall) (t : Nat) (l : List Waiting) : (h.setWaiting t l).resume = h.resume := rfl
@[simp] theorem setWaiting_orders (h : Hall) (t : Nat) (l : List Waiting) : (h.setWaiting t l).orders = h.orders := rfl
@[simp] theorem setWaiting_agenda (h : Hall) (t : Nat) (l : List Waiting) : (h.setWaiting t l).agenda = h.agenda := rfl
@[simp] theorem setWaiting_keyAgain (h : Hall) (t : Nat) (l : List Waiting) : (h.setWaiting t l).keyAgain = h.keyAgain := rfl

/-! ## setSlot -/

@[simp] theorem setSlot_table (h : Hall) (t : Nat) (r : Option Offered) : (h.setSlot t r).table = h.table := rfl
@[simp] theorem setSlot_calendar (h : Hall) (t : Nat) (r : Option Offered) : (h.setSlot t r).calendar = h.calendar := rfl
@[simp] theorem setSlot_lookahead (h : Hall) (t : Nat) (r : Option Offered) : (h.setSlot t r).lookahead = h.lookahead := rfl
@[simp] theorem setSlot_matrix (h : Hall) (t : Nat) (r : Option Offered) : (h.setSlot t r).matrix = h.matrix := rfl
@[simp] theorem setSlot_txs (h : Hall) (t : Nat) (r : Option Offered) : (h.setSlot t r).txs = h.txs := rfl
@[simp] theorem setSlot_carriages (h : Hall) (t : Nat) (r : Option Offered) : (h.setSlot t r).carriages = h.carriages := rfl
@[simp] theorem setSlot_waiting (h : Hall) (t : Nat) (r : Option Offered) : (h.setSlot t r).waiting = h.waiting := rfl
@[simp] theorem setSlot_parked (h : Hall) (t : Nat) (r : Option Offered) : (h.setSlot t r).parked = write h.parked t r := rfl
@[simp] theorem setSlot_monitors (h : Hall) (t : Nat) (r : Option Offered) : (h.setSlot t r).monitors = h.monitors := rfl
@[simp] theorem setSlot_attention (h : Hall) (t : Nat) (r : Option Offered) : (h.setSlot t r).attention = h.attention := rfl
@[simp] theorem setSlot_resume (h : Hall) (t : Nat) (r : Option Offered) : (h.setSlot t r).resume = h.resume := rfl
@[simp] theorem setSlot_orders (h : Hall) (t : Nat) (r : Option Offered) : (h.setSlot t r).orders = h.orders := rfl
@[simp] theorem setSlot_agenda (h : Hall) (t : Nat) (r : Option Offered) : (h.setSlot t r).agenda = h.agenda := rfl
@[simp] theorem setSlot_keyAgain (h : Hall) (t : Nat) (r : Option Offered) : (h.setSlot t r).keyAgain = h.keyAgain := rfl

/-! ## setMonitor -/

@[simp] theorem setMonitor_table (h : Hall) (t : Nat) (f : Monitor → Monitor) : (h.setMonitor t f).table = h.table := rfl
@[simp] theorem setMonitor_calendar (h : Hall) (t : Nat) (f : Monitor → Monitor) : (h.setMonitor t f).calendar = h.calendar := rfl
@[simp] theorem setMonitor_lookahead (h : Hall) (t : Nat) (f : Monitor → Monitor) : (h.setMonitor t f).lookahead = h.lookahead := rfl
@[simp] theorem setMonitor_matrix (h : Hall) (t : Nat) (f : Monitor → Monitor) : (h.setMonitor t f).matrix = h.matrix := rfl
@[simp] theorem setMonitor_txs (h : Hall) (t : Nat) (f : Monitor → Monitor) : (h.setMonitor t f).txs = h.txs := rfl
@[simp] theorem setMonitor_carriages (h : Hall) (t : Nat) (f : Monitor → Monitor) : (h.setMonitor t f).carriages = h.carriages := rfl
@[simp] theorem setMonitor_waiting (h : Hall) (t : Nat) (f : Monitor → Monitor) : (h.setMonitor t f).waiting = h.waiting := rfl
@[simp] theorem setMonitor_parked (h : Hall) (t : Nat) (f : Monitor → Monitor) : (h.setMonitor t f).parked = h.parked := rfl
@[simp] theorem setMonitor_monitors (h : Hall) (t : Nat) (f : Monitor → Monitor) : (h.setMonitor t f).monitors = update h.monitors t f := rfl
@[simp] theorem setMonitor_attention (h : Hall) (t : Nat) (f : Monitor → Monitor) : (h.setMonitor t f).attention = h.attention := rfl
@[simp] theorem setMonitor_resume (h : Hall) (t : Nat) (f : Monitor → Monitor) : (h.setMonitor t f).resume = h.resume := rfl
@[simp] theorem setMonitor_orders (h : Hall) (t : Nat) (f : Monitor → Monitor) : (h.setMonitor t f).orders = h.orders := rfl
@[simp] theorem setMonitor_agenda (h : Hall) (t : Nat) (f : Monitor → Monitor) : (h.setMonitor t f).agenda = h.agenda := rfl
@[simp] theorem setMonitor_keyAgain (h : Hall) (t : Nat) (f : Monitor → Monitor) : (h.setMonitor t f).keyAgain = h.keyAgain := rfl

/-! ## mapMatrix -/

@[simp] theorem mapMatrix_table (h : Hall) (f : Matrix → Matrix) : (h.mapMatrix f).table = h.table := rfl
@[simp] theorem mapMatrix_calendar (h : Hall) (f : Matrix → Matrix) : (h.mapMatrix f).calendar = h.calendar := rfl
@[simp] theorem mapMatrix_lookahead (h : Hall) (f : Matrix → Matrix) : (h.mapMatrix f).lookahead = h.lookahead := rfl
@[simp] theorem mapMatrix_matrix (h : Hall) (f : Matrix → Matrix) : (h.mapMatrix f).matrix = f h.matrix := rfl
@[simp] theorem mapMatrix_txs (h : Hall) (f : Matrix → Matrix) : (h.mapMatrix f).txs = h.txs := rfl
@[simp] theorem mapMatrix_carriages (h : Hall) (f : Matrix → Matrix) : (h.mapMatrix f).carriages = h.carriages := rfl
@[simp] theorem mapMatrix_waiting (h : Hall) (f : Matrix → Matrix) : (h.mapMatrix f).waiting = h.waiting := rfl
@[simp] theorem mapMatrix_parked (h : Hall) (f : Matrix → Matrix) : (h.mapMatrix f).parked = h.parked := rfl
@[simp] theorem mapMatrix_monitors (h : Hall) (f : Matrix → Matrix) : (h.mapMatrix f).monitors = h.monitors := rfl
@[simp] theorem mapMatrix_attention (h : Hall) (f : Matrix → Matrix) : (h.mapMatrix f).attention = h.attention := rfl
@[simp] theorem mapMatrix_resume (h : Hall) (f : Matrix → Matrix) : (h.mapMatrix f).resume = h.resume := rfl
@[simp] theorem mapMatrix_orders (h : Hall) (f : Matrix → Matrix) : (h.mapMatrix f).orders = h.orders := rfl
@[simp] theorem mapMatrix_agenda (h : Hall) (f : Matrix → Matrix) : (h.mapMatrix f).agenda = h.agenda := rfl
@[simp] theorem mapMatrix_keyAgain (h : Hall) (f : Matrix → Matrix) : (h.mapMatrix f).keyAgain = h.keyAgain := rfl

/-! ## setXp -/

@[simp] theorem setXp_table (h : Hall) (r c : Nat) (x : XpState) : (h.setXp r c x).table = h.table := rfl
@[simp] theorem setXp_calendar (h : Hall) (r c : Nat) (x : XpState) : (h.setXp r c x).calendar = h.calendar := rfl
@[simp] theorem setXp_lookahead (h : Hall) (r c : Nat) (x : XpState) : (h.setXp r c x).lookahead = h.lookahead := rfl
@[simp] theorem setXp_matrix (h : Hall) (r c : Nat) (x : XpState) : (h.setXp r c x).matrix = { h.matrix with xps := update h.matrix.xps r fun row => write row c x } := rfl
@[simp] theorem setXp_txs (h : Hall) (r c : Nat) (x : XpState) : (h.setXp r c x).txs = h.txs := rfl
@[simp] theorem setXp_carriages (h : Hall) (r c : Nat) (x : XpState) : (h.setXp r c x).carriages = h.carriages := rfl
@[simp] theorem setXp_waiting (h : Hall) (r c : Nat) (x : XpState) : (h.setXp r c x).waiting = h.waiting := rfl
@[simp] theorem setXp_parked (h : Hall) (r c : Nat) (x : XpState) : (h.setXp r c x).parked = h.parked := rfl
@[simp] theorem setXp_monitors (h : Hall) (r c : Nat) (x : XpState) : (h.setXp r c x).monitors = h.monitors := rfl
@[simp] theorem setXp_attention (h : Hall) (r c : Nat) (x : XpState) : (h.setXp r c x).attention = h.attention := rfl
@[simp] theorem setXp_resume (h : Hall) (r c : Nat) (x : XpState) : (h.setXp r c x).resume = h.resume := rfl
@[simp] theorem setXp_orders (h : Hall) (r c : Nat) (x : XpState) : (h.setXp r c x).orders = h.orders := rfl
@[simp] theorem setXp_agenda (h : Hall) (r c : Nat) (x : XpState) : (h.setXp r c x).agenda = h.agenda := rfl
@[simp] theorem setXp_keyAgain (h : Hall) (r c : Nat) (x : XpState) : (h.setXp r c x).keyAgain = h.keyAgain := rfl

/-! ## setAntenna -/

@[simp] theorem setAntenna_table (h : Hall) (a : Nat) (f : Antenna → Antenna) : (h.setAntenna a f).table = h.table := rfl
@[simp] theorem setAntenna_calendar (h : Hall) (a : Nat) (f : Antenna → Antenna) : (h.setAntenna a f).calendar = h.calendar := rfl
@[simp] theorem setAntenna_lookahead (h : Hall) (a : Nat) (f : Antenna → Antenna) : (h.setAntenna a f).lookahead = h.lookahead := rfl
@[simp] theorem setAntenna_matrix (h : Hall) (a : Nat) (f : Antenna → Antenna) : (h.setAntenna a f).matrix = { h.matrix with antennas := update h.matrix.antennas a f } := rfl
@[simp] theorem setAntenna_txs (h : Hall) (a : Nat) (f : Antenna → Antenna) : (h.setAntenna a f).txs = h.txs := rfl
@[simp] theorem setAntenna_carriages (h : Hall) (a : Nat) (f : Antenna → Antenna) : (h.setAntenna a f).carriages = h.carriages := rfl
@[simp] theorem setAntenna_waiting (h : Hall) (a : Nat) (f : Antenna → Antenna) : (h.setAntenna a f).waiting = h.waiting := rfl
@[simp] theorem setAntenna_parked (h : Hall) (a : Nat) (f : Antenna → Antenna) : (h.setAntenna a f).parked = h.parked := rfl
@[simp] theorem setAntenna_monitors (h : Hall) (a : Nat) (f : Antenna → Antenna) : (h.setAntenna a f).monitors = h.monitors := rfl
@[simp] theorem setAntenna_attention (h : Hall) (a : Nat) (f : Antenna → Antenna) : (h.setAntenna a f).attention = h.attention := rfl
@[simp] theorem setAntenna_resume (h : Hall) (a : Nat) (f : Antenna → Antenna) : (h.setAntenna a f).resume = h.resume := rfl
@[simp] theorem setAntenna_orders (h : Hall) (a : Nat) (f : Antenna → Antenna) : (h.setAntenna a f).orders = h.orders := rfl
@[simp] theorem setAntenna_agenda (h : Hall) (a : Nat) (f : Antenna → Antenna) : (h.setAntenna a f).agenda = h.agenda := rfl
@[simp] theorem setAntenna_keyAgain (h : Hall) (a : Nat) (f : Antenna → Antenna) : (h.setAntenna a f).keyAgain = h.keyAgain := rfl

/-! ## setClaim -/

@[simp] theorem setClaim_table (h : Hall) (a : Nat) (t : Option Nat) : (h.setClaim a t).table = h.table := rfl
@[simp] theorem setClaim_calendar (h : Hall) (a : Nat) (t : Option Nat) : (h.setClaim a t).calendar = h.calendar := rfl
@[simp] theorem setClaim_lookahead (h : Hall) (a : Nat) (t : Option Nat) : (h.setClaim a t).lookahead = h.lookahead := rfl
@[simp] theorem setClaim_matrix (h : Hall) (a : Nat) (t : Option Nat) : (h.setClaim a t).matrix = { h.matrix with claims := write h.matrix.claims a t } := rfl
@[simp] theorem setClaim_txs (h : Hall) (a : Nat) (t : Option Nat) : (h.setClaim a t).txs = h.txs := rfl
@[simp] theorem setClaim_carriages (h : Hall) (a : Nat) (t : Option Nat) : (h.setClaim a t).carriages = h.carriages := rfl
@[simp] theorem setClaim_waiting (h : Hall) (a : Nat) (t : Option Nat) : (h.setClaim a t).waiting = h.waiting := rfl
@[simp] theorem setClaim_parked (h : Hall) (a : Nat) (t : Option Nat) : (h.setClaim a t).parked = h.parked := rfl
@[simp] theorem setClaim_monitors (h : Hall) (a : Nat) (t : Option Nat) : (h.setClaim a t).monitors = h.monitors := rfl
@[simp] theorem setClaim_attention (h : Hall) (a : Nat) (t : Option Nat) : (h.setClaim a t).attention = h.attention := rfl
@[simp] theorem setClaim_resume (h : Hall) (a : Nat) (t : Option Nat) : (h.setClaim a t).resume = h.resume := rfl
@[simp] theorem setClaim_orders (h : Hall) (a : Nat) (t : Option Nat) : (h.setClaim a t).orders = h.orders := rfl
@[simp] theorem setClaim_agenda (h : Hall) (a : Nat) (t : Option Nat) : (h.setClaim a t).agenda = h.agenda := rfl
@[simp] theorem setClaim_keyAgain (h : Hall) (a : Nat) (t : Option Nat) : (h.setClaim a t).keyAgain = h.keyAgain := rfl

/-! ## setRoute -/

@[simp] theorem setRoute_table (h : Hall) (t : Nat) (r : Option RouteRequest) : (h.setRoute t r).table = h.table := rfl
@[simp] theorem setRoute_calendar (h : Hall) (t : Nat) (r : Option RouteRequest) : (h.setRoute t r).calendar = h.calendar := rfl
@[simp] theorem setRoute_lookahead (h : Hall) (t : Nat) (r : Option RouteRequest) : (h.setRoute t r).lookahead = h.lookahead := rfl
@[simp] theorem setRoute_matrix (h : Hall) (t : Nat) (r : Option RouteRequest) : (h.setRoute t r).matrix = { h.matrix with routes := write h.matrix.routes t r } := rfl
@[simp] theorem setRoute_txs (h : Hall) (t : Nat) (r : Option RouteRequest) : (h.setRoute t r).txs = h.txs := rfl
@[simp] theorem setRoute_carriages (h : Hall) (t : Nat) (r : Option RouteRequest) : (h.setRoute t r).carriages = h.carriages := rfl
@[simp] theorem setRoute_waiting (h : Hall) (t : Nat) (r : Option RouteRequest) : (h.setRoute t r).waiting = h.waiting := rfl
@[simp] theorem setRoute_parked (h : Hall) (t : Nat) (r : Option RouteRequest) : (h.setRoute t r).parked = h.parked := rfl
@[simp] theorem setRoute_monitors (h : Hall) (t : Nat) (r : Option RouteRequest) : (h.setRoute t r).monitors = h.monitors := rfl
@[simp] theorem setRoute_attention (h : Hall) (t : Nat) (r : Option RouteRequest) : (h.setRoute t r).attention = h.attention := rfl
@[simp] theorem setRoute_resume (h : Hall) (t : Nat) (r : Option RouteRequest) : (h.setRoute t r).resume = h.resume := rfl
@[simp] theorem setRoute_orders (h : Hall) (t : Nat) (r : Option RouteRequest) : (h.setRoute t r).orders = h.orders := rfl
@[simp] theorem setRoute_agenda (h : Hall) (t : Nat) (r : Option RouteRequest) : (h.setRoute t r).agenda = h.agenda := rfl
@[simp] theorem setRoute_keyAgain (h : Hall) (t : Nat) (r : Option RouteRequest) : (h.setRoute t r).keyAgain = h.keyAgain := rfl

/-! ## mapLookahead -/

@[simp] theorem mapLookahead_table (h : Hall) (f : Lookahead → Lookahead) : (h.mapLookahead f).table = h.table := rfl
@[simp] theorem mapLookahead_calendar (h : Hall) (f : Lookahead → Lookahead) : (h.mapLookahead f).calendar = h.calendar := rfl
@[simp] theorem mapLookahead_lookahead (h : Hall) (f : Lookahead → Lookahead) : (h.mapLookahead f).lookahead = f h.lookahead := rfl
@[simp] theorem mapLookahead_matrix (h : Hall) (f : Lookahead → Lookahead) : (h.mapLookahead f).matrix = h.matrix := rfl
@[simp] theorem mapLookahead_txs (h : Hall) (f : Lookahead → Lookahead) : (h.mapLookahead f).txs = h.txs := rfl
@[simp] theorem mapLookahead_carriages (h : Hall) (f : Lookahead → Lookahead) : (h.mapLookahead f).carriages = h.carriages := rfl
@[simp] theorem mapLookahead_waiting (h : Hall) (f : Lookahead → Lookahead) : (h.mapLookahead f).waiting = h.waiting := rfl
@[simp] theorem mapLookahead_parked (h : Hall) (f : Lookahead → Lookahead) : (h.mapLookahead f).parked = h.parked := rfl
@[simp] theorem mapLookahead_monitors (h : Hall) (f : Lookahead → Lookahead) : (h.mapLookahead f).monitors = h.monitors := rfl
@[simp] theorem mapLookahead_attention (h : Hall) (f : Lookahead → Lookahead) : (h.mapLookahead f).attention = h.attention := rfl
@[simp] theorem mapLookahead_resume (h : Hall) (f : Lookahead → Lookahead) : (h.mapLookahead f).resume = h.resume := rfl
@[simp] theorem mapLookahead_orders (h : Hall) (f : Lookahead → Lookahead) : (h.mapLookahead f).orders = h.orders := rfl
@[simp] theorem mapLookahead_agenda (h : Hall) (f : Lookahead → Lookahead) : (h.mapLookahead f).agenda = h.agenda := rfl
@[simp] theorem mapLookahead_keyAgain (h : Hall) (f : Lookahead → Lookahead) : (h.mapLookahead f).keyAgain = h.keyAgain := rfl

/-! ## mapBooking -/

@[simp] theorem mapBooking_table (h : Hall) (n : Nat) (f : Booking → Booking) : (h.mapBooking n f).table = { h.table with records := h.table.records.map fun b => if b.fields.number == n then f b else b } := rfl
@[simp] theorem mapBooking_calendar (h : Hall) (n : Nat) (f : Booking → Booking) : (h.mapBooking n f).calendar = h.calendar := rfl
@[simp] theorem mapBooking_lookahead (h : Hall) (n : Nat) (f : Booking → Booking) : (h.mapBooking n f).lookahead = h.lookahead := rfl
@[simp] theorem mapBooking_matrix (h : Hall) (n : Nat) (f : Booking → Booking) : (h.mapBooking n f).matrix = h.matrix := rfl
@[simp] theorem mapBooking_txs (h : Hall) (n : Nat) (f : Booking → Booking) : (h.mapBooking n f).txs = h.txs := rfl
@[simp] theorem mapBooking_carriages (h : Hall) (n : Nat) (f : Booking → Booking) : (h.mapBooking n f).carriages = h.carriages := rfl
@[simp] theorem mapBooking_waiting (h : Hall) (n : Nat) (f : Booking → Booking) : (h.mapBooking n f).waiting = h.waiting := rfl
@[simp] theorem mapBooking_parked (h : Hall) (n : Nat) (f : Booking → Booking) : (h.mapBooking n f).parked = h.parked := rfl
@[simp] theorem mapBooking_monitors (h : Hall) (n : Nat) (f : Booking → Booking) : (h.mapBooking n f).monitors = h.monitors := rfl
@[simp] theorem mapBooking_attention (h : Hall) (n : Nat) (f : Booking → Booking) : (h.mapBooking n f).attention = h.attention := rfl
@[simp] theorem mapBooking_resume (h : Hall) (n : Nat) (f : Booking → Booking) : (h.mapBooking n f).resume = h.resume := rfl
@[simp] theorem mapBooking_orders (h : Hall) (n : Nat) (f : Booking → Booking) : (h.mapBooking n f).orders = h.orders := rfl
@[simp] theorem mapBooking_agenda (h : Hall) (n : Nat) (f : Booking → Booking) : (h.mapBooking n f).agenda = h.agenda := rfl
@[simp] theorem mapBooking_keyAgain (h : Hall) (n : Nat) (f : Booking → Booking) : (h.mapBooking n f).keyAgain = h.keyAgain := rfl

/-! ## post -/

@[simp] theorem post_table (e : Env) (k : EventKind) (v : Nat) (h : Hall) : (post e k v h).table = h.table := rfl
@[simp] theorem post_calendar (e : Env) (k : EventKind) (v : Nat) (h : Hall) : (post e k v h).calendar = h.calendar := rfl
@[simp] theorem post_lookahead (e : Env) (k : EventKind) (v : Nat) (h : Hall) : (post e k v h).lookahead = h.lookahead := rfl
@[simp] theorem post_matrix (e : Env) (k : EventKind) (v : Nat) (h : Hall) : (post e k v h).matrix = h.matrix := rfl
@[simp] theorem post_txs (e : Env) (k : EventKind) (v : Nat) (h : Hall) : (post e k v h).txs = h.txs := rfl
@[simp] theorem post_carriages (e : Env) (k : EventKind) (v : Nat) (h : Hall) : (post e k v h).carriages = h.carriages := rfl
@[simp] theorem post_waiting (e : Env) (k : EventKind) (v : Nat) (h : Hall) : (post e k v h).waiting = h.waiting := rfl
@[simp] theorem post_parked (e : Env) (k : EventKind) (v : Nat) (h : Hall) : (post e k v h).parked = h.parked := rfl
@[simp] theorem post_monitors (e : Env) (k : EventKind) (v : Nat) (h : Hall) : (post e k v h).monitors = h.monitors := rfl
@[simp] theorem post_attention (e : Env) (k : EventKind) (v : Nat) (h : Hall) : (post e k v h).attention = h.attention.post e.mask k v := rfl
@[simp] theorem post_resume (e : Env) (k : EventKind) (v : Nat) (h : Hall) : (post e k v h).resume = h.resume := rfl
@[simp] theorem post_orders (e : Env) (k : EventKind) (v : Nat) (h : Hall) : (post e k v h).orders = h.orders := rfl
@[simp] theorem post_agenda (e : Env) (k : EventKind) (v : Nat) (h : Hall) : (post e k v h).agenda = h.agenda := rfl
@[simp] theorem post_keyAgain (e : Env) (k : EventKind) (v : Nat) (h : Hall) : (post e k v h).keyAgain = h.keyAgain := rfl

/-! ## send -/

@[simp] theorem send_table (o : Order) (h : Hall) : (send o h).table = h.table := rfl
@[simp] theorem send_calendar (o : Order) (h : Hall) : (send o h).calendar = h.calendar := rfl
@[simp] theorem send_lookahead (o : Order) (h : Hall) : (send o h).lookahead = h.lookahead := rfl
@[simp] theorem send_matrix (o : Order) (h : Hall) : (send o h).matrix = h.matrix := rfl
@[simp] theorem send_txs (o : Order) (h : Hall) : (send o h).txs = h.txs := rfl
@[simp] theorem send_carriages (o : Order) (h : Hall) : (send o h).carriages = h.carriages := rfl
@[simp] theorem send_waiting (o : Order) (h : Hall) : (send o h).waiting = h.waiting := rfl
@[simp] theorem send_parked (o : Order) (h : Hall) : (send o h).parked = h.parked := rfl
@[simp] theorem send_monitors (o : Order) (h : Hall) : (send o h).monitors = h.monitors := rfl
@[simp] theorem send_attention (o : Order) (h : Hall) : (send o h).attention = h.attention := rfl
@[simp] theorem send_resume (o : Order) (h : Hall) : (send o h).resume = h.resume := rfl
@[simp] theorem send_orders (o : Order) (h : Hall) : (send o h).orders = h.orders ++ [o] := rfl
@[simp] theorem send_agenda (o : Order) (h : Hall) : (send o h).agenda = h.agenda := rfl
@[simp] theorem send_keyAgain (o : Order) (h : Hall) : (send o h).keyAgain = h.keyAgain := rfl

/-! ## raise -/

@[simp] theorem raise_table (r : Report) (h : Hall) : (raise r h).table = h.table := rfl
@[simp] theorem raise_calendar (r : Report) (h : Hall) : (raise r h).calendar = h.calendar := rfl
@[simp] theorem raise_lookahead (r : Report) (h : Hall) : (raise r h).lookahead = h.lookahead := rfl
@[simp] theorem raise_matrix (r : Report) (h : Hall) : (raise r h).matrix = h.matrix := rfl
@[simp] theorem raise_txs (r : Report) (h : Hall) : (raise r h).txs = h.txs := rfl
@[simp] theorem raise_carriages (r : Report) (h : Hall) : (raise r h).carriages = h.carriages := rfl
@[simp] theorem raise_waiting (r : Report) (h : Hall) : (raise r h).waiting = h.waiting := rfl
@[simp] theorem raise_parked (r : Report) (h : Hall) : (raise r h).parked = h.parked := rfl
@[simp] theorem raise_monitors (r : Report) (h : Hall) : (raise r h).monitors = h.monitors := rfl
@[simp] theorem raise_attention (r : Report) (h : Hall) : (raise r h).attention = h.attention := rfl
@[simp] theorem raise_resume (r : Report) (h : Hall) : (raise r h).resume = h.resume := rfl
@[simp] theorem raise_orders (r : Report) (h : Hall) : (raise r h).orders = h.orders := rfl
@[simp] theorem raise_agenda (r : Report) (h : Hall) : (raise r h).agenda = h.agenda ++ [r] := rfl
@[simp] theorem raise_keyAgain (r : Report) (h : Hall) : (raise r h).keyAgain = h.keyAgain := rfl

/-! ## raiseFirst -/

@[simp] theorem raiseFirst_table (r : Report) (h : Hall) : (raiseFirst r h).table = h.table := rfl
@[simp] theorem raiseFirst_calendar (r : Report) (h : Hall) : (raiseFirst r h).calendar = h.calendar := rfl
@[simp] theorem raiseFirst_lookahead (r : Report) (h : Hall) : (raiseFirst r h).lookahead = h.lookahead := rfl
@[simp] theorem raiseFirst_matrix (r : Report) (h : Hall) : (raiseFirst r h).matrix = h.matrix := rfl
@[simp] theorem raiseFirst_txs (r : Report) (h : Hall) : (raiseFirst r h).txs = h.txs := rfl
@[simp] theorem raiseFirst_carriages (r : Report) (h : Hall) : (raiseFirst r h).carriages = h.carriages := rfl
@[simp] theorem raiseFirst_waiting (r : Report) (h : Hall) : (raiseFirst r h).waiting = h.waiting := rfl
@[simp] theorem raiseFirst_parked (r : Report) (h : Hall) : (raiseFirst r h).parked = h.parked := rfl
@[simp] theorem raiseFirst_monitors (r : Report) (h : Hall) : (raiseFirst r h).monitors = h.monitors := rfl
@[simp] theorem raiseFirst_attention (r : Report) (h : Hall) : (raiseFirst r h).attention = h.attention := rfl
@[simp] theorem raiseFirst_resume (r : Report) (h : Hall) : (raiseFirst r h).resume = h.resume := rfl
@[simp] theorem raiseFirst_orders (r : Report) (h : Hall) : (raiseFirst r h).orders = h.orders := rfl
@[simp] theorem raiseFirst_agenda (r : Report) (h : Hall) : (raiseFirst r h).agenda = r :: h.agenda := rfl
@[simp] theorem raiseFirst_keyAgain (r : Report) (h : Hall) : (raiseFirst r h).keyAgain = h.keyAgain := rfl

/-! ## The whole state -/

@[simp] theorem act_env (s : State) (run : Hall → Hall) : (s.act run).env = s.env := rfl
@[simp] theorem act_power (s : State) (run : Hall → Hall) : (s.act run).power = s.power := rfl
@[simp] theorem act_links (s : State) (run : Hall → Hall) : (s.act run).links = s.links := rfl
@[simp] theorem act_pending (s : State) (run : Hall → Hall) : (s.act run).pending = s.pending := rfl
@[simp] theorem act_hall (s : State) (run : Hall → Hall) : (s.act run).hall = conclude s.env s.hall.keyAgain (run { s.hall with orders := [] }) := rfl
@[simp] theorem reply_env (s : State) (link : Link) (code : Nat) (tag : Byte) (a : Option Answer) : (s.reply link code tag a).env = s.env := rfl
@[simp] theorem reply_power (s : State) (link : Link) (code : Nat) (tag : Byte) (a : Option Answer) : (s.reply link code tag a).power = s.power := rfl
@[simp] theorem reply_hall (s : State) (link : Link) (code : Nat) (tag : Byte) (a : Option Answer) : (s.reply link code tag a).hall = s.hall := rfl
@[simp] theorem reply_pending (s : State) (link : Link) (code : Nat) (tag : Byte) (a : Option Answer) : (s.reply link code tag a).pending = s.pending := rfl
@[simp] theorem setReceiver_env (s : State) (link : Link) (r : Receiver) : (s.setReceiver link r).env = s.env := by
  unfold State.setReceiver; split <;> rfl
@[simp] theorem setReceiver_power (s : State) (link : Link) (r : Receiver) : (s.setReceiver link r).power = s.power := by
  unfold State.setReceiver; split <;> rfl
@[simp] theorem setReceiver_hall (s : State) (link : Link) (r : Receiver) : (s.setReceiver link r).hall = s.hall := by
  unfold State.setReceiver; split <;> rfl
@[simp] theorem setReceiver_pending (s : State) (link : Link) (r : Receiver) : (s.setReceiver link r).pending = s.pending := by
  unfold State.setReceiver; split <;> rfl
@[simp] theorem setSide_address (l : Links) (link : Link) (f : LinkState → LinkState) : (l.setSide link f).address = l.address := by
  cases link <;> rfl
@[simp] theorem setSide_addressLines (l : Links) (link : Link) (f : LinkState → LinkState) : (l.setSide link f).addressLines = l.addressLines := by
  cases link <;> rfl
@[simp] theorem setSide_draws (l : Links) (link : Link) (f : LinkState → LinkState) : (l.setSide link f).draws = l.draws := by
  cases link <;> rfl

@[simp] theorem side_setSide_same (l : Links) (link : Link) (f : LinkState → LinkState) :
    (l.setSide link f).side link = f (l.side link) := by
  cases link <;> rfl

theorem side_setSide_ne (l : Links) (link other : Link) (f : LinkState → LinkState) (ne : other ≠ link) :
    (l.setSide link f).side other = l.side other := by
  cases link <;> cases other <;> first | rfl | exact absurd rfl ne

end Sys2Proof.Machine
end

