-- ==== Sys2Proof/Laws/Links.lean ====
section
/-! SUPPORT. How a command reaches the blocks, said once: a frame not taken, malformed or answered; an event on a hall line; a timer's expiry. -/

namespace Sys2Proof.Machine

theorem frameOr_untaken {bad : State → Answer} {link : Link} {code : Nat} {tag : Byte} {body : Body α}
    {run : α → State → State × Option Answer} {s : State} (no : s.takes link = false) :
    frameOr bad link code tag body run s = s.setReceiver link .waiting := by
  simp [frameOr, no]

theorem frameOr_malformed {bad : State → Answer} {link : Link} {code : Nat} {tag : Byte}
    {run : α → State → State × Option Answer} {s : State} (yes : s.takes link = true) :
    frameOr bad link code tag .malformed run s = s.reply link code tag (some (bad s)) := by
  simp [frameOr, yes]

theorem frameOr_fields {bad : State → Answer} {link : Link} {code : Nat} {tag : Byte} {a : α}
    {run : α → State → State × Option Answer} {s : State} (yes : s.takes link = true) :
    frameOr bad link code tag (.fields a) run s = (run a s).1.reply link code tag (run a s).2 := by
  simp [frameOr, yes]

theorem frame_untaken {link : Link} {code : Nat} {tag : Byte} {body : Body α}
    {run : α → State → State × Option Answer} {s : State} (no : s.takes link = false) :
    frame link code tag body run s = s.setReceiver link .waiting := frameOr_untaken no

theorem frame_fields {link : Link} {code : Nat} {tag : Byte} {a : α}
    {run : α → State → State × Option Answer} {s : State} (yes : s.takes link = true) :
    frame link code tag (.fields a) run s = (run a s).1.reply link code tag (run a s).2 := frameOr_fields yes

theorem takes_running {s : State} {link : Link} (yes : s.takes link = true) : s.power = .running := by
  simp [State.takes] at yes
  exact yes.1.1.1

/-- A frame that is taken is one its link hears. -/
theorem takes_hears {s : State} {link : Link} (yes : s.takes link = true) : (s.links.side link).hears link = true := by
  simp [State.takes] at yes
  exact yes.1.1.2

/-- A character is read back from its bits (R181). -/
theorem readCharacter_planning (c : LinkCharacter) : readCharacter .planning (characterBits .planning c) = some c := by
  obtain ⟨mark, data⟩ := c
  revert data
  cases mark <;> decide

theorem setReceiver_stopped {s : State} {link : Link} {r : Receiver} (no : s.power ≠ .running) :
    s.setReceiver link r = s := by
  simp [State.setReceiver, no]

/-- A receiver that is disabled while its part drives the line stays so (R182). -/
theorem setReceiver_disabled {s : State} {link : Link} {r : Receiver}
    (no : (s.links.side link).receiver = .disabled) : s.setReceiver link r = s := by
  simp [State.setReceiver, no]

theorem setReceiver_running {s : State} {link : Link} {r : Receiver} (yes : s.power = .running)
    (hears : (s.links.side link).receiver ≠ .disabled) :
    s.setReceiver link r = { s with links := s.links.setSide link fun l => { l with receiver := r } } := by
  simp [State.setReceiver, yes, hears]

theorem event_running {env : Env → Env} {run : Env → Hall → Hall} {s : State} (yes : s.power = .running) :
    event env run s = State.act { s with env := env s.env } (run (env s.env)) := by
  simp [event, yes]

theorem event_stopped {env : Env → Env} {run : Env → Hall → Hall} {s : State} (no : s.power ≠ .running) :
    event env run s = s := by
  simp [event, no]

theorem expiry_none {limit : Hall → Option Nat} {run : Env → Hall → Hall} {s : State} (no : limit s.hall = none) :
    expiry limit run s = s := by
  simp [expiry, no]

theorem expiry_some {limit : Hall → Option Nat} {run : Env → Hall → Hall} {s : State} {t : Nat}
    (yes : limit s.hall = some t) : expiry limit run s = event (·.reach t) run s := by
  simp [expiry, yes]

/-- A command that may change the hall leaves it, or acts on it. -/
theorem changing_cases (run : α → Env → Hall → Effect) (a : α) (s : State) :
    (changing run a s).1 = s ∨ ∃ f, (run a s.env s.hall).change = some f ∧ (changing run a s).1 = s.act f := by
  unfold changing
  cases eq : (run a s.env s.hall).change with
  | none => exact Or.inl (by simp [eq])
  | some f => exact Or.inr ⟨f, rfl, by simp [eq]⟩

theorem changing_answer (run : α → Env → Hall → Effect) (a : α) (s : State) :
    (changing run a s).2 = (run a s.env s.hall).answer := by
  unfold changing
  dsimp only
  split <;> rfl

theorem governing_answer (run : α → Env → Hall → Verdict) (a : α) (s : State) :
    (governing run a s).2 = some (run a s.env s.hall).answer := by
  unfold governing
  dsimp only
  split <;> rfl

end Sys2Proof.Machine
end

