-- ==== Sys2Proof/Laws/Commands.lean ====
section
/-! SUPPORT. What exec answers for a frame that is taken, from what its block makes of it: refused, answered, or taken with a change of the hall. -/

namespace Sys2Proof.Machine

variable {α : Type} {s : State} {link : Link} {code : Nat} {tag : Byte} {a : α}

/-- A command that its block answers with a code alone. -/
theorem changing_refused {run : α → Env → Hall → Effect} {r : ResultCode} (yes : s.takes link = true)
    (eq : run a s.env s.hall = .unchanged r) :
    .next (frame link code tag (.fields a) (changing run) s) = answers s link code tag r := by
  rw [frame_fields yes]
  simp only [changing, eq, Effect.unchanged, answers]

/-- A command that its block answers without a change. -/
theorem changing_answered {run : α → Env → Hall → Effect} {x : Option Answer} (yes : s.takes link = true)
    (eq : run a s.env s.hall = { answer := x, change := none }) :
    frame link code tag (.fields a) (changing run) s = s.reply link code tag x := by
  rw [frame_fields yes]
  simp only [changing, eq]

/-- A command that its block takes and answers DONE. -/
theorem changing_done {run : α → Env → Hall → Effect} {f : Hall → Hall} (yes : s.takes link = true)
    (eq : run a s.env s.hall = .done f) :
    .next (frame link code tag (.fields a) (changing run) s) = takes s link code tag f := by
  rw [frame_fields yes]
  simp only [changing, eq, Effect.done, takes]

/-- A command that its block takes, with another answer or none. -/
theorem changing_taken {run : α → Env → Hall → Effect} {x : Option Answer} {f : Hall → Hall}
    (yes : s.takes link = true) (eq : run a s.env s.hall = { answer := x, change := some f }) :
    frame link code tag (.fields a) (changing run) s = (s.act f).reply link code tag x := by
  rw [frame_fields yes]
  simp only [changing, eq]

/-- A command that only reads. -/
theorem reading_answered {run : α → Env → Hall → Answer} (yes : s.takes link = true) :
    frame link code tag (.fields a) (reading run) s = s.reply link code tag (some (run a s.env s.hall)) := by
  rw [frame_fields yes]
  rfl

/-- A command of hall control or the clock that is refused, or finds nothing to change. -/
theorem governing_refused {run : α → Env → Hall → Verdict} {r : ResultCode} (yes : s.takes link = true)
    (eq : run a s.env s.hall = .unchanged s.env r) :
    .next (frame link code tag (.fields a) (governing run) s) = answers s link code tag r := by
  rw [frame_fields yes]
  simp only [governing, eq, Verdict.unchanged, answers]

/-- A command of hall control or the clock answered without a change of the hall. -/
theorem governing_answered {run : α → Env → Hall → Verdict} {x : Answer} {e : Env} (yes : s.takes link = true)
    (eq : run a s.env s.hall = { answer := x, env := e, change := none }) :
    frame link code tag (.fields a) (governing run) s = State.reply { s with env := e } link code tag (some x) := by
  rw [frame_fields yes]
  simp only [governing, eq]

/-- A command of hall control that is taken with a change of the hall. -/
theorem governing_taken {run : α → Env → Hall → Verdict} {x : Answer} {e : Env} {f : Hall → Hall}
    (yes : s.takes link = true) (eq : run a s.env s.hall = { answer := x, env := e, change := some f }) :
    frame link code tag (.fields a) (governing run) s =
      (State.act { s with env := e } f).reply link code tag (some x) := by
  rw [frame_fields yes]
  simp only [governing, eq]

end Sys2Proof.Machine
end

