-- ==== Sys2Proof/Laws/Ops.lean ====
section
/-! SUPPORT. What the shared operations do, each said once: entries of tables, changes made for each number, postings, scans of the lookahead unit, RF OFF and RF enable. -/

namespace Sys2Proof.Machine

/-! ## Entries of tables -/

theorem read_write_same [Inhabited α] (v : Vector α n) (i : Nat) (a : α) (lt : i < n) : read (write v i a) i = a := by
  simp [read, write, lt]

theorem read_write_ne [Inhabited α] (v : Vector α n) (i j : Nat) (a : α) (ne : j ≠ i) :
    read (write v i a) j = read v j := by
  simp [read, write, ne.symm]

theorem write_out (v : Vector α n) (i : Nat) (a : α) (out : n ≤ i) : write v i a = v := by
  ext j lt
  have ne : i ≠ j := by omega
  simp [write, ne]

theorem read_out [Inhabited α] (v : Vector α n) (i : Nat) (out : n ≤ i) : read v i = default := by
  simp [read, out]

theorem read_update_same [Inhabited α] (v : Vector α n) (i : Nat) (f : α → α) (lt : i < n) :
    read (update v i f) i = f (read v i) := read_write_same v i _ lt

theorem read_update_ne [Inhabited α] (v : Vector α n) (i j : Nat) (f : α → α) (ne : j ≠ i) :
    read (update v i f) j = read v j := read_write_ne v i j _ ne

theorem write_write (v : Vector α n) (i : Nat) (a b : α) : write (write v i a) i b = write v i b := by
  ext j lt
  by_cases eq : i = j <;> simp [write, eq]

theorem update_update [Inhabited α] (v : Vector α n) (i : Nat) (f g : α → α) (lt : i < n) :
    update (update v i f) i g = update v i (fun x => g (f x)) := by
  unfold update
  rw [write_write, read_write_same v i _ lt]

theorem read_replicate [Inhabited α] (i : Nat) (a : α) (lt : i < n) : read (Vector.replicate n a) i = a := by
  simp [read, lt]

theorem tx_setTx_same (h : Hall) (t : Nat) (f : Tx → Tx) (lt : t < Config.rows) : (h.setTx t f).tx t = f (h.tx t) :=
  read_update_same h.txs t f lt

theorem tx_setTx_ne (h : Hall) (t u : Nat) (f : Tx → Tx) (ne : u ≠ t) : (h.setTx t f).tx u = h.tx u :=
  read_update_ne h.txs t u f ne

theorem carriage_setCarriage_same (h : Hall) (t : Nat) (c : Option Carriage) (lt : t < Config.rows) :
    (h.setCarriage t c).carriage t = c := read_write_same h.carriages t c lt

theorem carriage_setCarriage_ne (h : Hall) (t u : Nat) (c : Option Carriage) (ne : u ≠ t) :
    (h.setCarriage t c).carriage u = h.carriage u := read_write_ne h.carriages t u c ne

theorem antenna_setAntenna_same (h : Hall) (a : Nat) (f : Antenna → Antenna) (lt : a < Config.columns) :
    (h.setAntenna a f).antenna a = f (h.antenna a) := read_update_same h.matrix.antennas a f lt

theorem antenna_setAntenna_ne (h : Hall) (a b : Nat) (f : Antenna → Antenna) (ne : b ≠ a) :
    (h.setAntenna a f).antenna b = h.antenna b := read_update_ne h.matrix.antennas a b f ne

theorem monitor_setMonitor_same (h : Hall) (t : Nat) (f : Monitor → Monitor) (lt : t < Config.rows) :
    (h.setMonitor t f).monitor t = f (h.monitor t) := read_update_same h.monitors t f lt

theorem monitor_setMonitor_ne (h : Hall) (t u : Nat) (f : Monitor → Monitor) (ne : u ≠ t) :
    (h.setMonitor t f).monitor u = h.monitor u := read_update_ne h.monitors t u f ne

theorem claim_setClaim_same (h : Hall) (a : Nat) (t : Option Nat) (lt : a < Config.columns) :
    (h.setClaim a t).claim a = t := read_write_same h.matrix.claims a t lt

theorem claim_setClaim_ne (h : Hall) (a b : Nat) (t : Option Nat) (ne : b ≠ a) :
    (h.setClaim a t).claim b = h.claim b := read_write_ne h.matrix.claims a b t ne

theorem xp_setXp_same (h : Hall) (r c : Nat) (x : XpState) (lr : r < Config.rows) (lc : c < Config.columns) :
    (h.setXp r c x).xp r c = x := by
  unfold Hall.xp
  rw [setXp_matrix]
  dsimp only
  rw [read_update_same _ _ _ lr]
  simp [write, lc]

theorem xp_setXp_ne (h : Hall) (r c r' c' : Nat) (x : XpState) (ne : r' ≠ r ∨ c' ≠ c) :
    (h.setXp r c x).xp r' c' = h.xp r' c' := by
  unfold Hall.xp
  rw [setXp_matrix]
  dsimp only
  by_cases same : r' = r
  · subst same
    have other : c' ≠ c := ne.resolve_left fun no => no rfl
    by_cases lr : r' < Config.rows
    · rw [read_update_same _ _ _ lr]
      simp [write, other.symm]
    · have out : Config.rows ≤ r' := by omega
      rw [read_out _ _ out, read_out _ _ out]
  · rw [read_update_ne _ _ _ _ same]

/-! ## Changes made for each number -/

/-- What every single change keeps, the changes in order keep. -/
theorem forEach_keeps (P : Hall → Prop) (l : List Nat) (f : Nat → Hall → Hall)
    (each : ∀ i ∈ l, ∀ h, P h → P (f i h)) : ∀ h, P h → P (forEach l f h) := by
  induction l with
  | nil => exact fun h p => p
  | cons i rest ih =>
    intro h p
    exact ih (fun j mem => each j (List.mem_cons_of_mem _ mem)) _ (each i List.mem_cons_self h p)

/-- The same for a fold over any list. -/
theorem foldl_keeps (P : Hall → Prop) (l : List α) (f : Hall → α → Hall)
    (each : ∀ a ∈ l, ∀ h, P h → P (f h a)) : ∀ h, P h → P (l.foldl f h) := by
  induction l with
  | nil => exact fun h p => p
  | cons a rest ih =>
    intro h p
    exact ih (fun b mem => each b (List.mem_cons_of_mem _ mem)) _ (each a List.mem_cons_self h p)

/-- Rounds of what follows keep what a report, a pass and a cue keep. -/
theorem settleRounds_keeps (P : Hall → Prop) (e : Env) (round : ∀ h, P h → P (settleRound e h).1) :
    ∀ n h, P h → P (settleRounds e n h) := by
  intro n
  induction n with
  | zero => exact fun h p => p
  | succ n ih =>
    intro h p
    unfold settleRounds
    dsimp only
    split
    · exact ih _ (round h p)
    · exact round h p

/-! ## What a scan of the lookahead unit changes -/

/-- Only cues, readmissions, the shortage flag and the attention unit differ. -/
def OnlyCues (h h' : Hall) : Prop := h' = { h with lookahead := h'.lookahead, attention := h'.attention }

theorem OnlyCues.refl (h : Hall) : OnlyCues h h := rfl

theorem OnlyCues.trans {a b c : Hall} (ab : OnlyCues a b) (bc : OnlyCues b c) : OnlyCues a c := by
  unfold OnlyCues at *
  rw [bc, ab]

theorem onlyCues_post (e : Env) (k : EventKind) (v : Nat) (h : Hall) : OnlyCues h (post e k v h) := rfl

theorem onlyCues_mapLookahead (h : Hall) (f : Lookahead → Lookahead) : OnlyCues h (h.mapLookahead f) := rfl

theorem onlyCues_postPrepare (e : Env) (c : Cue) (h : Hall) : OnlyCues h (postPrepare e c h) := by
  unfold postPrepare
  dsimp only
  split <;> split <;> rfl

theorem onlyCues_setShort (e : Env) (l : List Group) (h : Hall) : OnlyCues h (setShort e l h) := by
  unfold setShort
  split
  · rfl
  · split <;> rfl

theorem onlyCues_remake (e : Env) (how : Nat → Remake) (h : Hall) : OnlyCues h (remake e how h) := by
  unfold remake
  split
  · rfl
  · dsimp only
    refine foldl_keeps (OnlyCues h) _ _ (fun c _ h' p => p.trans (onlyCues_postPrepare e c h')) _ ?_
    exact (onlyCues_mapLookahead h _).trans (onlyCues_setShort e _ _)

theorem onlyCues_scan (e : Env) (ts : List Nat) (h : Hall) : OnlyCues h (scan e ts h) := onlyCues_remake e _ h

theorem onlyCues_admitLacking (e : Env) (h : Hall) : OnlyCues h (admitLacking e h) := onlyCues_remake e _ h

theorem onlyCues_rescanBack (e : Env) (h : Hall) : OnlyCues h (rescanBack e h) := onlyCues_admitLacking e h

theorem onlyCues_refresh (e : Env) (t : Nat) (h : Hall) : OnlyCues h (refresh e t h) := onlyCues_scan e [t] h

theorem onlyCues_rescan (e : Env) (h : Hall) : OnlyCues h (rescan e h) := onlyCues_scan e allRows h

theorem onlyCues_refill (e : Env) (h : Hall) : OnlyCues h (refill e h) := by
  unfold refill
  split
  · exact onlyCues_admitLacking e h
  · rfl

theorem onlyCues_readmit (e : Env) (number day : Nat) (h : Hall) : OnlyCues h (readmit e number day h) := by
  unfold readmit
  split
  · rfl
  · split
    · rfl
    · split
      · exact onlyCues_refresh _ _ _
      · exact (onlyCues_mapLookahead h _).trans (onlyCues_refresh _ _ _)

theorem onlyCues_moveStop (e : Env) (t number day due : Nat) (h : Hall) : OnlyCues h (moveStop e t number day due h) := by
  unfold moveStop
  split
  · exact (onlyCues_mapLookahead h _).trans (onlyCues_refresh _ _ _)
  · rfl

theorem onlyCues_dropCues (e : Env) (t number day : Nat) (h : Hall) : OnlyCues h (dropCues e t number day h) := by
  unfold dropCues
  split
  · exact (onlyCues_mapLookahead h _).trans (onlyCues_refresh _ _ _)
  · rfl

/-- With no cue of the occurrence left the request to drop its cues is discarded (R54). -/
theorem dropCues_discarded (e : Env) (t number day : Nat) (h : Hall)
    (gone : h.lookahead.cues.any (·.isOf number day) = false) : dropCues e t number day h = h := by
  simp [dropCues, gone]

/-! ## Leaving LOCAL -/

/-- Leaving LOCAL changes the matrix alone (R75). -/
theorem leaveLocal_frame (t : Nat) (h : Hall) : leaveLocal t h = { h with matrix := (leaveLocal t h).matrix } := by
  unfold leaveLocal
  split <;> rfl

/-! ## Claims -/

/-- A claim is granted exactly on the five conditions of R76. -/
theorem claimable_iff (e : Env) (h : Hall) (t a : Nat) : claimable e h t a = true ↔
    (e.antConfig a).present = true ∧ (h.antenna a).lock = .free ∧ (h.antenna a).suspect = false ∧
    colBlocked h a = false ∧ (h.claim a).any (· != t) = false := by
  unfold claimable claimRefusal
  repeat' split
  all_goals simp_all

/-- A claim the transmitter already holds, or one refused, leaves every claim as it was (R76). -/
theorem grantClaim_kept (e : Env) (t a : Nat) (h : Hall)
    (kept : (claimAnswer e h t a).isSome = true ∨ h.claim a = some t) : grantClaim e t a h = h := by
  unfold grantClaim
  rcases kept with refused | held
  · simp [refused]
  · simp [held]

/-! ## RF OFF and RF enable -/

/-- RF OFF changes its transmitter, the orders and the agenda. -/
theorem rfOff_frame (e : Env) (t : Nat) (h : Hall) :
    rfOff e t h = { h with txs := (rfOff e t h).txs, orders := (rfOff e t h).orders, agenda := (rfOff e t h).agenda } := by
  unfold rfOff sendTx
  dsimp only
  repeat' split
  all_goals rfl

theorem rfOff_tx_ne (e : Env) (t u : Nat) (h : Hall) (ne : u ≠ t) : (rfOff e t h).tx u = h.tx u := by
  unfold rfOff sendTx
  dsimp only
  repeat' split
  all_goals simp [Hall.tx, raise, send, Hall.setTx, read_update_ne, ne]

theorem rfOff_rfEnable (e : Env) (t : Nat) (h : Hall) (lt : t < Config.rows) : ((rfOff e t h).tx t).rfEnable = false := by
  unfold rfOff sendTx
  dsimp only
  repeat' split
  all_goals simp [Hall.tx, raise, send, Hall.setTx, read_update_same, lt]

/-- Testing R97 for one transmitter leaves every other as it stands. -/
theorem enforceOne_tx_ne (e : Env) (t u : Nat) (h : Hall) (ne : u ≠ t) : (enforceOne e t h).tx u = h.tx u := by
  unfold enforceOne
  split
  · dsimp only
    split
    · exact rfOff_tx_ne e t u h ne
    · exact rfOff_tx_ne e t u h ne
  · rfl

/-- Testing R97 changes transmitters, orders and the agenda alone. -/
theorem enforceOne_frame (e : Env) (t : Nat) (h : Hall) :
    enforceOne e t h =
      { h with txs := (enforceOne e t h).txs, orders := (enforceOne e t h).orders, agenda := (enforceOne e t h).agenda } := by
  unfold enforceOne
  split
  · dsimp only
    split
    · conv => lhs; unfold raise; rw [rfOff_frame]
      rfl
    · conv => lhs; rw [rfOff_frame]
  · rfl

/-! ## Tunes -/

/-- Asking for a tune changes the transmitters, the orders and the reports alone (R104). -/
theorem takeTune_frame (e : Env) (t f : Nat) (who : Requester) (h : Hall) :
    takeTune e t f who h =
      { h with txs := (takeTune e t f who h).txs, orders := (takeTune e t f who h).orders
               agenda := (takeTune e t f who h).agenda } := by
  simp only [takeTune, startTune, tellTuned, sendTx]
  repeat' split
  all_goals rfl

/-- A pending tune taken changes the transmitters, the orders and the reports alone (R105). -/
theorem takePendingTune_frame (e : Env) (t : Nat) (h : Hall) :
    takePendingTune e t h =
      { h with txs := (takePendingTune e t h).txs, orders := (takePendingTune e t h).orders
               agenda := (takePendingTune e t h).agenda } := by
  simp only [takePendingTune]
  repeat' split
  · rfl
  · rfl
  · rw [takeTune_frame]; rfl

/-- A tune withdrawn changes the transmitters, the orders and the reports alone (R104, R106). -/
theorem withdrawTune_frame (e : Env) (t : Nat) (h : Hall) :
    withdrawTune e t h =
      { h with txs := (withdrawTune e t h).txs, orders := (withdrawTune e t h).orders
               agenda := (withdrawTune e t h).agenda } := by
  simp only [withdrawTune]
  repeat' split
  · rfl
  · rw [takePendingTune_frame]; rfl
  · rfl
  · rfl

/-! ## Ordered collections and routes -/

theorem insertBy_perm (less : α → α → Bool) (x : α) (l : List α) : (insertBy less x l).Perm (x :: l) := by
  induction l with
  | nil => exact List.Perm.refl _
  | cons y r ih =>
    unfold insertBy
    split
    · exact (List.Perm.cons y ih).trans (List.Perm.swap x y r)
    · exact List.Perm.refl _

/-- Putting a list in order keeps its items. -/
theorem sortBy_perm (less : α → α → Bool) (l : List α) : (sortBy less l).Perm l := by
  induction l with
  | nil => exact List.Perm.refl _
  | cons y r ih => exact (insertBy_perm less y _).trans (List.Perm.cons y ih)

theorem only_eq_some {l : List α} {x : α} : only l = some x ↔ l = [x] := by
  match l with
  | [] => simp [only]
  | [y] => simp [only]
  | a :: b :: c => simp [only]

/-- A number is the only one below a bound that passes a test. -/
theorem filter_range_eq_singleton (n : Nat) (p : Nat → Bool) (x : Nat) :
    (List.range n).filter p = [x] ↔ x < n ∧ p x = true ∧ ∀ y, y < n → p y = true → y = x := by
  constructor
  · intro h
    have hx : x ∈ (List.range n).filter p := by rw [h]; simp
    refine ⟨by simpa using (List.mem_filter.mp hx).1, (List.mem_filter.mp hx).2, fun y hy hp => ?_⟩
    have : y ∈ (List.range n).filter p := List.mem_filter.mpr ⟨by simpa using hy, hp⟩
    rw [h] at this
    simpa using this
  · rintro ⟨hx, hp, hu⟩
    have nd : ((List.range n).filter p).Nodup := List.Nodup.filter _ List.nodup_range
    have hm : ∀ y, y ∈ (List.range n).filter p ↔ y = x := by
      intro y
      rw [List.mem_filter, List.mem_range]
      exact ⟨fun h => hu y h.1 h.2, fun h => h ▸ ⟨hx, hp⟩⟩
    generalize (List.range n).filter p = l at nd hm
    match l with
    | [] => simpa using (hm x).mpr rfl
    | [y] => rw [(hm y).mp (by simp)]
    | a :: b :: c =>
      have h1 := (hm a).mp (by simp)
      have h2 := (hm b).mp (by simp)
      simp [h1, h2] at nd

end Sys2Proof.Machine
end

