-- ==== Sys2Proof/Laws/PerInstr.lean ====
section
/-! SUPPORT. Laws stated once for every command. FrameCode: a well-formed command that came in a frame has a code of its link (Table 40, R192), but for one that no link knows. -/

namespace Sys2Proof.Laws.FrameCode
open Sys2Proof.Machine

/-- The code of a frame is a command of the link it arrived on, unless the frame is answered UNKNOWN_COMMAND (R185). -/
def Statement (i : Instr) : Prop :=
  i.wf = true → ∀ link code tag, frameOf i = some (link, code, tag) →
    isCommandCode link code = match i with | .unknownCommand .. => false | _ => true

theorem enter (tag : Byte) (body : Body Offered) : Statement (.enter tag body) := by
  intro _ _ _ _ eq
  cases eq
  rfl

theorem loadBlock (tag : Byte) (body : Body (List Offered)) : Statement (.loadBlock tag body) := by
  intro _ _ _ _ eq
  cases eq
  rfl

theorem amend (tag : Byte) (body : Body Offered) : Statement (.amend tag body) := by
  intro _ _ _ _ eq
  cases eq
  rfl

theorem withdraw (tag : Byte) (body : Body WithdrawArgs) : Statement (.withdraw tag body) := by
  intro _ _ _ _ eq
  cases eq
  rfl

theorem fetch (link : Link) (tag : Byte) (body : Body Nat) : Statement (.fetch link tag body) := by
  intro _ _ _ _ eq
  cases eq
  cases link <;> rfl

theorem list (tag : Byte) (body : Body ListArgs) : Statement (.list tag body) := by
  intro _ _ _ _ eq
  cases eq
  rfl

theorem calendarAdd (tag : Byte) (body : Body SeasonEntry) : Statement (.calendarAdd tag body) := by
  intro _ _ _ _ eq
  cases eq
  rfl

theorem calendarRemove (tag : Byte) (body : Body Nat) : Statement (.calendarRemove tag body) := by
  intro _ _ _ _ eq
  cases eq
  rfl

theorem calendarRead (tag : Byte) (body : Body Unit) : Statement (.calendarRead tag body) := by
  intro _ _ _ _ eq
  cases eq
  rfl

theorem setClock (dest : Addressing) (body : Body ClockValue) : Statement (.setClock dest body) := by
  intro _ _ _ _ eq
  cases dest <;> cases eq
  rfl

theorem readCues (tag : Byte) (body : Body Nat) : Statement (.readCues tag body) := by
  intro _ _ _ _ eq
  cases eq
  rfl

theorem readTransmitter (link : Link) (tag : Byte) (body : Body Nat) : Statement (.readTransmitter link tag body) := by
  intro _ _ _ _ eq
  cases eq
  cases link <;> rfl

theorem readAntenna (link : Link) (tag : Byte) (body : Body Nat) : Statement (.readAntenna link tag body) := by
  intro _ _ _ _ eq
  cases eq
  cases link <;> rfl

theorem readRoutes (link : Link) (tag : Byte) (body : Body Nat) : Statement (.readRoutes link tag body) := by
  intro _ _ _ _ eq
  cases eq
  cases link <;> rfl

theorem configureHall (tag : Byte) (body : Body HallRecord) : Statement (.configureHall tag body) := by
  intro _ _ _ _ eq
  cases eq
  rfl

theorem commission (tag : Byte) (body : Body Unit) : Statement (.commission tag body) := by
  intro _ _ _ _ eq
  cases eq
  rfl

theorem reconfigure (tag : Byte) (body : Body Unit) : Statement (.reconfigure tag body) := by
  intro _ _ _ _ eq
  cases eq
  rfl

theorem configureTransmitter (tag : Byte) (body : Body TxWrite) : Statement (.configureTransmitter tag body) := by
  intro _ _ _ _ eq
  cases eq
  rfl

theorem configureAntenna (tag : Byte) (body : Body AntWrite) : Statement (.configureAntenna tag body) := by
  intro _ _ _ _ eq
  cases eq
  rfl

theorem setAlarmMask (tag : Byte) (body : Body (BitVec 32)) : Statement (.setAlarmMask tag body) := by
  intro _ _ _ _ eq
  cases eq
  rfl

theorem poll (link : Link) (tag : Byte) (body : Body Unit) : Statement (.poll link tag body) := by
  intro _ _ _ _ eq
  cases eq
  cases link <;> rfl

theorem setLinkRate (link : Link) (tag : Byte) (body : Body Nat) : Statement (.setLinkRate link tag body) := by
  intro _ _ _ _ eq
  cases eq
  cases link <;> rfl

theorem lockAntenna (tag : Byte) (body : Body Nat) : Statement (.lockAntenna tag body) := by
  intro _ _ _ _ eq
  cases eq
  rfl

theorem freeAntenna (tag : Byte) (body : Body Nat) : Statement (.freeAntenna tag body) := by
  intro _ _ _ _ eq
  cases eq
  rfl

theorem clearSuspect (tag : Byte) (body : Body Nat) : Statement (.clearSuspect tag body) := by
  intro _ _ _ _ eq
  cases eq
  rfl

theorem clearStuck (tag : Byte) (body : Body RowCol) : Statement (.clearStuck tag body) := by
  intro _ _ _ _ eq
  cases eq
  rfl

theorem takeLocal (tag : Byte) (body : Body Nat) : Statement (.takeLocal tag body) := by
  intro _ _ _ _ eq
  cases eq
  rfl

theorem giveRemote (tag : Byte) (body : Body Nat) : Statement (.giveRemote tag body) := by
  intro _ _ _ _ eq
  cases eq
  rfl

theorem localRoute (tag : Byte) (body : Body LocalRouteArgs) : Statement (.localRoute tag body) := by
  intro _ _ _ _ eq
  cases eq
  rfl

theorem localTune (tag : Byte) (body : Body LocalArgs) : Statement (.localTune tag body) := by
  intro _ _ _ _ eq
  cases eq
  rfl

theorem localRfOn (tag : Byte) (body : Body LocalArgs) : Statement (.localRfOn tag body) := by
  intro _ _ _ _ eq
  cases eq
  rfl

theorem localRfOff (tag : Byte) (body : Body Nat) : Statement (.localRfOff tag body) := by
  intro _ _ _ _ eq
  cases eq
  rfl

theorem clearHeld (tag : Byte) (body : Body Nat) : Statement (.clearHeld tag body) := by
  intro _ _ _ _ eq
  cases eq
  rfl

theorem takeAmendment (tag : Byte) (body : Body Nat) : Statement (.takeAmendment tag body) := by
  intro _ _ _ _ eq
  cases eq
  rfl

theorem dropAmendment (tag : Byte) (body : Body Nat) : Statement (.dropAmendment tag body) := by
  intro _ _ _ _ eq
  cases eq
  rfl

theorem hallStop (tag : Byte) (body : Body Unit) : Statement (.hallStop tag body) := by
  intro _ _ _ _ eq
  cases eq
  rfl

theorem hallResume (tag : Byte) (body : Body Unit) : Statement (.hallResume tag body) := by
  intro _ _ _ _ eq
  cases eq
  rfl

theorem ackAlarm (tag : Byte) (body : Body Unit) : Statement (.ackAlarm tag body) := by
  intro _ _ _ _ eq
  cases eq
  rfl

theorem unknownCommand (link : Link) (code : Byte) (tag : Byte) : Statement (.unknownCommand link code tag) := by
  intro wf _ _ _ eq
  cases eq
  simpa [Instr.wf] using wf

theorem characterGapTimeout (link : Link) : Statement (.characterGapTimeout link) := by
  intro _ _ _ _ eq
  cases eq

theorem linkBreak (link : Link) : Statement (.linkBreak link) := by
  intro _ _ _ _ eq
  cases eq

theorem responseSent (link : Link) : Statement (.responseSent link) := by
  intro _ _ _ _ eq
  cases eq

theorem secondPulse (time : Nat) : Statement (.secondPulse time) := by
  intro _ _ _ _ eq
  cases eq

theorem pulseWatchExpiry : Statement (.pulseWatchExpiry) := by
  intro _ _ _ _ eq
  cases eq

theorem internalAdvance : Statement (.internalAdvance) := by
  intro _ _ _ _ eq
  cases eq

theorem contactReport (row col : Nat) (reading : Reading) : Statement (.contactReport row col reading) := by
  intro _ _ _ _ eq
  cases eq

theorem moveTimeout (row col : Nat) : Statement (.moveTimeout row col) := by
  intro _ _ _ _ eq
  cases eq

theorem surveyLimit : Statement (.surveyLimit) := by
  intro _ _ _ _ eq
  cases eq

theorem settingCompletionReport (antenna : Nat) (setting : Setting) : Statement (.settingCompletionReport antenna setting) := by
  intro _ _ _ _ eq
  cases eq

theorem settingTimeout (antenna : Nat) : Statement (.settingTimeout antenna) := by
  intro _ _ _ _ eq
  cases eq

theorem statusReport (transmitter : Nat) (indications : Indications) : Statement (.statusReport transmitter indications) := by
  intro _ _ _ _ eq
  cases eq

theorem tuneComplete (transmitter frequency : Nat) : Statement (.tuneComplete transmitter frequency) := by
  intro _ _ _ _ eq
  cases eq

theorem tuneTimeout (transmitter : Nat) : Statement (.tuneTimeout transmitter) := by
  intro _ _ _ _ eq
  cases eq

theorem rfUpTimeout (transmitter : Nat) : Statement (.rfUpTimeout transmitter) := by
  intro _ _ _ _ eq
  cases eq

theorem rfDownTimeout (transmitter : Nat) : Statement (.rfDownTimeout transmitter) := by
  intro _ _ _ _ eq
  cases eq

theorem detectorConversion (transmitter : Nat) (vf vr : BitVec 10) : Statement (.detectorConversion transmitter vf vr) := by
  intro _ _ _ _ eq
  cases eq

theorem recycleTimerExpiry (transmitter : Nat) : Statement (.recycleTimerExpiry transmitter) := by
  intro _ _ _ _ eq
  cases eq

theorem cleanRunExpiry (transmitter : Nat) : Statement (.cleanRunExpiry transmitter) := by
  intro _ _ _ _ eq
  cases eq

theorem powerUp (inputs : StartInputs) : Statement (.powerUp inputs) := by
  intro _ _ _ _ eq
  cases eq

theorem restartAsserted : Statement (.restartAsserted) := by
  intro _ _ _ _ eq
  cases eq

theorem restartReleased (inputs : StartInputs) : Statement (.restartReleased inputs) := by
  intro _ _ _ _ eq
  cases eq

theorem restartHeld5s (address : Nat) : Statement (.restartHeld5s address) := by
  intro _ _ _ _ eq
  cases eq

theorem frameDiscard (link : Link) (cause : Discard) : Statement (.frameDiscard link cause) := by
  intro _ _ _ _ eq
  cases eq

theorem mainSupplyLoss : Statement (.mainSupplyLoss) := by
  intro _ _ _ _ eq
  cases eq

end Sys2Proof.Laws.FrameCode
end

