-- ==== Sys2Proof/Tests/Slice0.lean ====
section
/-! SUPPORT. Tests: ill-formed terms that the well-formedness check refuses, each command run once on a small state, and for every obligation with premises a state and operands that meet them. -/

namespace Sys2Proof.Tests

open Sys2Proof.Machine

set_option Elab.async false

/-! ## A small hall -/

def everyDay : Weekdays := Vector.replicate 7 true

/-- Booking 330 of the worked case of chapter 3, with an alternate. -/
def programme : Offered where
  number := 330
  season := 12
  transmitter := 4
  antenna := 11
  alternate := some 12
  setting := Setting.rest
  frequency := 15510
  power := 250
  start := 360
  duration := 30
  days := everyDay
  firstDay := none
  lastDay := none
  label := [65]

def another : Offered := { programme with number := 331, start := 400, frequency := 9410 }

def record : Booking := { fields := programme, state := .active, lastRun := none, outcome := .none }

def txPlant : TxConfig where
  present := true
  minFreq := 3900
  maxFreq := 26100
  rated := 300
  tuneBase := 20
  tuneRate := 25
  rfDown := 3

def antPlant : AntConfig where
  present := true
  bearing := 350
  rating := 500
  windows := [{ low := 2300, high := 26100 }]
  maxSlew := 6
  reversible := true
  settingTime := 14

/-- A running hall of day 812, 05:50:00, every transmitter and antenna present. -/
def plant : Env :=
  { Env.cold 0 with
    config := { hall := Config.hallDefaults, txs := Vector.replicate _ txPlant, antennas := Vector.replicate _ antPlant }
    mode := .running
    clock := { Clock.cold 0 with day := 812, second := 21000, status := .locked, everSet := true, watch := some 2000 }
    inputs := { (Env.cold 0).inputs with readings := Vector.replicate _ (Vector.replicate _ .opened) } }

def allOpen : Matrix :=
  { Matrix.start Antenna.coldAll 0 false with
    xps := Vector.replicate _ (Vector.replicate _ .opened), survey := none }

def quiet : Hall :=
  { Hall.cold 0 with
    matrix := allOpen
    calendar := { entries := [{ id := 12, firstDay := 700 }, { id := 13, firstDay := 900 }], live := some 12 }
    table := { records := [record], armed := true }
    orders := [] }

def stage : State := { State.reset with env := plant, hall := quiet }

/-- The carriage of the programme on air, its transmitter radiating on column 11. -/
def onAirCarriage : Carriage where
  booking := 330
  day := 812
  start := 812 * 86400 + 21600
  stop := 812 * 86400 + 23400
  antenna := 11
  setting := Setting.rest
  frequency := 15510
  power := 250
  lead := 41
  phase := .onAir
  routeDone := true
  tuneDone := true
  settingDone := true
  substituted := false
  tripUsed := false
  aired := true
  lateSeconds := 0
  breakBegan := none
  outcome := .aired
  said := { late := false, clamped := false }

def radiating : Hall :=
  (((quiet.setCarriage 4 (some onAirCarriage)).setXp 4 11 .closed).setClaim 11 (some 4)).setTx 4 fun x =>
    { x with state := .serving, tuned := some 15510, power := some 250, rfEnable := true }

def radiatingEnv : Env :=
  Env.withIndications 4 { rfPresent := true, fault := false, ready := true } (Env.withReading 4 11 .closed plant)

def onAirStage : State := { stage with env := radiatingEnv, hall := radiating }

/-- The same hall in configuring, and stopped. -/
def inMode (m : HallMode) : State := { stage with env := { plant with mode := m } }

/-- A test of the next state, false when there is none. -/
def got (o : Host.Outcome State Fault Refusal) (p : State → Bool) : Bool :=
  match o with
  | .next s => p s
  | _ => false

/-- The result code given on a link. -/
def code (s : State) (link : Link) : Option ResultCode := ((s.links.side link).outstanding.bind (·.answer)).map (·.result)

/-- A command answered with a code, and a test of the next state. -/
def gives (i : Instr) (s : State) (link : Link) (r : ResultCode) (p : State → Bool) : Bool :=
  got (exec i s) fun t => code t link == some r && p t

/-! ## Well-formedness: for each check a term it refuses -/

theorem test_wf_programme : (Instr.enter 0 (.fields programme)).wf = true := by decide +kernel
theorem test_ill_number : (Instr.enter 0 (.fields { programme with number := 65536 })).wf = false := by decide +kernel
theorem test_ill_season : (Instr.amend 0 (.fields { programme with season := 256 })).wf = false := by decide +kernel
theorem test_ill_alternate : (Instr.enter 0 (.fields { programme with alternate := some 255 })).wf = false := by
  decide +kernel
theorem test_ill_slew : (Instr.enter 0 (.fields { programme with setting := ⟨7, .forward⟩ })).wf = false := by
  decide +kernel
theorem test_ill_lastDay : (Instr.enter 0 (.fields { programme with lastDay := some 65536 })).wf = false := by
  decide +kernel
theorem test_ill_label : (Instr.enter 0 (.fields { programme with label := [256] })).wf = false := by decide +kernel
theorem test_ill_block : (Instr.loadBlock 0 (.fields [{ programme with power := 65536 }])).wf = false := by
  decide +kernel
theorem test_ill_withdraw : (Instr.withdraw 0 (.fields ⟨65536, false⟩)).wf = false := by decide +kernel
theorem test_ill_fetch : (Instr.fetch .console 0 (.fields 65536)).wf = false := by decide +kernel
theorem test_ill_list : (Instr.list 0 (.fields ⟨1, some 255, none, none⟩)).wf = false := by decide +kernel
theorem test_ill_list_season : (Instr.list 0 (.fields ⟨1, none, none, some 0⟩)).wf = false := by decide +kernel
theorem test_ill_calendarAdd : (Instr.calendarAdd 0 (.fields ⟨12, 65536⟩)).wf = false := by decide +kernel
theorem test_ill_calendarRemove : (Instr.calendarRemove 0 (.fields 256)).wf = false := by decide +kernel
theorem test_ill_setClock : (Instr.setClock .broadcast (.fields ⟨0, 256 ^ 3⟩)).wf = false := by decide +kernel
theorem test_ill_readCues : (Instr.readCues 0 (.fields 256)).wf = false := by decide +kernel
theorem test_ill_readTransmitter : (Instr.readTransmitter .console 0 (.fields 256)).wf = false := by decide +kernel
theorem test_ill_readAntenna : (Instr.readAntenna .console 0 (.fields 256)).wf = false := by decide +kernel
theorem test_ill_readRoutes : (Instr.readRoutes .console 0 (.fields 65536)).wf = false := by decide +kernel
theorem test_ill_hall : (Instr.configureHall 0 (.fields { Config.hallDefaults with guard := 256 })).wf = false := by
  decide +kernel
theorem test_ill_tx : (Instr.configureTransmitter 0 (.fields ⟨256, txPlant⟩)).wf = false := by decide +kernel
theorem test_ill_antenna :
    (Instr.configureAntenna 0 (.fields ⟨0, { antPlant with windows := [⟨0, 65536⟩] }⟩)).wf = false := by decide +kernel
theorem test_ill_rate : (Instr.setLinkRate .planning 0 (.fields 65536)).wf = false := by decide +kernel
theorem test_ill_lock : (Instr.lockAntenna 0 (.fields 256)).wf = false := by decide +kernel
theorem test_ill_stuck : (Instr.clearStuck 0 (.fields ⟨0, 256⟩)).wf = false := by decide +kernel
theorem test_ill_takeLocal : (Instr.takeLocal 0 (.fields 256)).wf = false := by decide +kernel
theorem test_ill_localRoute : (Instr.localRoute 0 (.fields ⟨0, some 255⟩)).wf = false := by decide +kernel
theorem test_ill_localTune : (Instr.localTune 0 (.fields ⟨0, 65536⟩)).wf = false := by decide +kernel
theorem test_ill_unknown : (Instr.unknownCommand .planning 22 0).wf = false := by decide +kernel
theorem test_ill_setting : (Instr.settingCompletionReport 0 ⟨-7, .reverse⟩).wf = false := by decide +kernel
theorem test_ill_tuneComplete : (Instr.tuneComplete 12 9410).wf = false := by decide +kernel
theorem test_ill_timeout : (Instr.rfUpTimeout 12).wf = false := by decide +kernel
theorem test_ill_conversion : (Instr.detectorConversion 12 0 0).wf = false := by decide +kernel
theorem test_ill_move : (Instr.moveTimeout 0 25).wf = false := by decide +kernel
theorem test_ill_settingTimeout : (Instr.settingTimeout 25).wf = false := by decide +kernel
theorem test_ill_power : (Instr.powerUp ⟨32, true, 0⟩).wf = false := by decide +kernel
theorem test_ill_restart : (Instr.restartHeld5s 32).wf = false := by decide +kernel
theorem test_ill_discard : (Instr.frameDiscard .console (.marked 5)).wf = false := by decide +kernel
theorem test_ill_marked : (Instr.frameDiscard .planning (.marked 32)).wf = false := by decide +kernel

/-! ## The commands of the planning link -/

theorem test_enter : gives (.enter 7 (.fields another)) stage .planning .done (fun t =>
    (t.hall.table.records.map (·.fields.number)) == [330, 331]) = true := by decide +kernel
theorem test_enter_conflict :
    gives (.enter 7 (.fields { another with start := 370 })) stage .planning .conflictTx (fun t =>
      t.hall.table.records.length == 1) = true := by decide +kernel
theorem test_loadBlock : gives (.loadBlock 7 (.fields [another, another])) stage .planning .done (fun t =>
    t.hall.table.records.length == 2) = true := by decide +kernel
theorem test_amend : gives (.amend 7 (.fields { programme with power := 300 })) stage .planning .done (fun t =>
    t.hall.table.records.map (·.fields.power) == [300]) = true := by decide +kernel
theorem test_amend_parked :
    gives (.amend 7 (.fields { programme with frequency := 9410 })) onAirStage .planning .parked (fun t =>
      (t.hall.slotOf 4).any (·.frequency == 9410)) = true := by decide +kernel
theorem test_withdraw : gives (.withdraw 7 (.fields ⟨330, false⟩)) stage .planning .done (fun t =>
    t.hall.table.records.isEmpty) = true := by decide +kernel
theorem test_withdraw_now : gives (.withdraw 7 (.fields ⟨330, true⟩)) onAirStage .planning .done (fun t =>
    t.hall.table.records.isEmpty && !(t.hall.tx 4).rfEnable) = true := by decide +kernel
theorem test_fetch : gives (.fetch .planning 7 (.fields 331)) stage .planning .unknown (fun t =>
    t.hall == stage.hall) = true := by decide +kernel
theorem test_list : got (exec (.list 7 (.fields ⟨1, none, some 12, none⟩)) stage) (fun t =>
    (t.links.planning.outstanding.bind (·.answer)) == some ⟨.done, .numbers false [330]⟩) = true := by decide +kernel
theorem test_calendarAdd : gives (.calendarAdd 7 (.fields ⟨14, 813⟩)) stage .planning .done (fun t =>
    t.hall.calendar.entries.map (·.id) == [12, 14, 13]) = true := by decide +kernel
theorem test_calendarAdd_past : gives (.calendarAdd 7 (.fields ⟨14, 812⟩)) stage .planning .past (fun _ => true) = true := by
  decide +kernel
theorem test_calendarRemove : gives (.calendarRemove 7 (.fields 13)) stage .planning .done (fun t =>
    t.hall.calendar.entries.map (·.id) == [12]) = true := by decide +kernel
theorem test_calendarRead : gives (.calendarRead 7 (.fields ())) stage .planning .done (fun t =>
    t.hall == stage.hall) = true := by decide +kernel
theorem test_setClock : gives (.setClock (.addressed 7) (.fields ⟨65535, 86399⟩)) stage .planning .done (fun t =>
    t.env.clock.setting == some ⟨65535, 86399⟩) = true := by decide +kernel
theorem test_setClock_format : gives (.setClock (.addressed 7) (.fields ⟨0, 86400⟩)) stage .planning .format (fun t =>
    t.env.clock.setting == none) = true := by decide +kernel
theorem test_readCues : gives (.readCues 7 (.fields 192)) stage .planning .format (fun _ => true) = true := by
  decide +kernel
theorem test_readTransmitter : gives (.readTransmitter .console 7 (.fields 12)) stage .console .format (fun t =>
    t.links.draws == 1) = true := by decide +kernel
theorem test_readAntenna_azimuth :
    azimuth plant (quiet.setAntenna 3 fun a => { a with setting := some ⟨4, .forward⟩ }) 3 = some 10 ∧
    azimuth plant (quiet.setAntenna 3 fun a => { a with setting := some ⟨4, .reverse⟩ }) 3 = some 190 ∧
    azimuth plant (quiet.setAntenna 3 fun a => { a with setting := some ⟨-6, .forward⟩ }) 3 = some 320 := by
  decide +kernel
theorem test_readAntenna : gives (.readAntenna .planning 7 (.fields 24)) stage .planning .done (fun t =>
    t.hall == stage.hall) = true := by decide +kernel
theorem test_readRoutes : got (exec (.readRoutes .console 7 (.fields 0)) onAirStage) (fun t =>
    match t.links.console.outstanding.bind (·.answer) with
    | some ⟨.done, .routes rows _ _ _ _ listed⟩ => (rows.map (·.route))[4]? == some (some 11) && listed.map (·.number) == [111]
    | _ => false) = true := by decide +kernel
theorem test_configureHall : gives (.configureHall 7 (.fields { Config.hallDefaults with travel := 20 }))
    (inMode .configuring) .planning .done (fun t => t.env.config.hall.travel == 20) = true := by decide +kernel
theorem test_configureHall_guard : gives (.configureHall 7 (.fields { Config.hallDefaults with guard := 15 }))
    (inMode .configuring) .planning .inUse (fun t => t.env.config.hall.guard == 10) = true := by decide +kernel
theorem test_configureTransmitter : gives (.configureTransmitter 7 (.fields ⟨4, { txPlant with rated := 240 }⟩))
    (inMode .configuring) .planning .inUse (fun t => (t.env.txConfig 4).rated == 300) = true := by decide +kernel
theorem test_configureAntenna : gives (.configureAntenna 7 (.fields ⟨24, { antPlant with rating := 100 }⟩))
    (inMode .configuring) .planning .done (fun t =>
      (t.env.antConfig 24).rating == 100 && (t.env.antConfig 24).maxSlew == 0) = true := by decide +kernel
theorem test_commission : gives (.commission 7 (.fields ())) (inMode .configuring) .planning .done (fun t =>
    t.env.mode == .running && t.hall.lookahead.cues.length == 3) = true := by decide +kernel
theorem test_reconfigure : gives (.reconfigure 7 (.fields ())) (inMode .stopped) .planning .done (fun t =>
    t.env.mode == .configuring) = true := by decide +kernel
theorem test_setAlarmMask : gives (.setAlarmMask 7 (.fields 0x1000000)) stage .planning .format (fun t =>
    t.env.mask == coldMask) = true := by decide +kernel
theorem test_poll : gives (.poll .planning 7 (.fields ())) State.reset .planning .done (fun t =>
    members t.hall.attention.planning == [] && members t.hall.attention.console == [(24, 0)]) = true := by decide +kernel
theorem test_setLinkRate : gives (.setLinkRate .planning 7 (.fields 1023)) stage .planning .done (fun t =>
    t.links.planning.divisor == 31 && t.links.planning.newDivisor == some 1023) = true := by decide +kernel

/-! ## The commands of the console link -/

theorem test_lockAntenna : gives (.lockAntenna 7 (.fields 5)) stage .console .done (fun t =>
    (t.hall.antenna 5).lock == .locked) = true := by decide +kernel
theorem test_lockAntenna_onAir : gives (.lockAntenna 7 (.fields 11)) onAirStage .console .done (fun t =>
    (t.hall.antenna 11).lock == .pending && (t.hall.carriage 4).any (fun c => c.antenna == 12 && c.phase == .rfDown)) =
    true := by decide +kernel
theorem test_freeAntenna : gives (.freeAntenna 7 (.fields 5))
    { stage with hall := quiet.setAntenna 5 fun a => { a with lock := .locked } } .console .done (fun t =>
      (t.hall.antenna 5).lock == .free) = true := by decide +kernel
theorem test_clearSuspect : gives (.clearSuspect 7 (.fields 5))
    { stage with hall := quiet.setAntenna 5 fun a => { a with suspect := true } } .console .done (fun t =>
      !(t.hall.antenna 5).suspect) = true := by decide +kernel
theorem test_clearStuck : gives (.clearStuck 7 (.fields ⟨0, 0⟩)) { stage with hall := quiet.setXp 0 0 .stuck } .console
    .done (fun t => t.hall.xp 0 0 == .opened) = true := by decide +kernel
theorem test_takeLocal : gives (.takeLocal 7 (.fields 4)) onAirStage .console .done (fun t =>
    (t.hall.tx 4).state == .console && (t.hall.tx 4).rfEnable && (t.hall.carriage 4).isNone) = true := by decide +kernel
theorem test_giveRemote : gives (.giveRemote 7 (.fields 3))
    { stage with hall := quiet.setTx 3 fun x => { x with mode := .console, state := .console } } .console .done (fun t =>
      (t.hall.tx 3).state == .idle) = true := by decide +kernel
theorem test_localRoute : gives (.localRoute 7 (.fields ⟨3, some 6⟩))
    { stage with hall := quiet.setTx 3 fun x => { x with mode := .console, state := .console } } .console .done (fun t =>
      t.hall.xp 3 6 == .closing) = true := by decide +kernel
theorem test_localTune : gives (.localTune 7 (.fields ⟨3, 9410⟩))
    { stage with hall := quiet.setTx 3 fun x => { x with mode := .console, state := .console } } .console .done (fun t =>
      (t.hall.tx 3).tune.any fun u => u.frequency == 9410 && u.ends == none) = true := by decide +kernel
theorem test_localRfOn : gives (.localRfOn 7 (.fields ⟨3, 601⟩)) stage .console .format (fun _ => true) = true := by
  decide +kernel
theorem test_localRfOff : gives (.localRfOff 7 (.fields 4)) onAirStage .console .mode (fun t =>
    (t.hall.tx 4).rfEnable) = true := by decide +kernel
theorem test_clearHeld : gives (.clearHeld 7 (.fields 3))
    { stage with hall := quiet.setTx 3 fun x => { x with state := .held, reason := some .tune } } .console .done (fun t =>
      (t.hall.tx 3).state == .idle && (t.hall.tx 3).reason == none) = true := by decide +kernel
theorem test_takeAmendment : gives (.takeAmendment 7 (.fields 4))
    { onAirStage with hall := radiating.setSlot 4 (some { programme with power := 100 }) } .console .done (fun t =>
      (t.hall.slotOf 4).isNone && t.hall.table.records.map (·.fields.power) == [100]) = true := by decide +kernel
theorem test_dropAmendment : gives (.dropAmendment 7 (.fields 4))
    { onAirStage with hall := radiating.setSlot 4 (some { programme with power := 100 }) } .console .done (fun t =>
      (t.hall.slotOf 4).isNone && t.hall.table.records.map (·.fields.power) == [250]) = true := by decide +kernel
theorem test_hallStop : gives (.hallStop 7 (.fields ())) onAirStage .console .done (fun t =>
    t.env.mode == .stopped && !(t.hall.tx 4).rfEnable && (t.hall.carriage 4).any (·.phase == .ending) &&
      t.hall.resume.map (·.booking) == [330]) = true := by decide +kernel
theorem test_hallResume : gives (.hallResume 7 (.fields ())) (inMode .stopped) .console .done (fun t =>
    t.env.mode == .running) = true := by decide +kernel
theorem test_ackAlarm : gives (.ackAlarm 7 (.fields ()))
    { stage with hall := post plant .held 4 quiet } .console .done (fun t =>
      t.hall.attention.alarm == 0 && members t.hall.attention.console == [(3, 4), (24, 0)]) = true := by decide +kernel
theorem test_unknownCommand : gives (.unknownCommand .console 1 7) stage .console .unknownCommand (fun _ => true) = true := by
  decide +kernel

/-! ## Link events -/

theorem test_gap : got (exec (.characterGapTimeout .console) stage) (fun t => t.links.console.receiver == .idle) = true := by
  decide +kernel
theorem test_break : got (exec (.linkBreak .planning) stage) (fun t => t.links.planning.receiver == .waiting) = true := by
  decide +kernel
/-- A marked character in a frame: for this hall, for all, for another. -/
theorem test_discard : [1, 0, 5].map (fun a => got (exec (.frameDiscard .planning (.marked a)) stage) (fun t =>
    t.links.planning.receiver == markedReceiver 1 a)) = [true, true, true] := by decide +kernel
/-- After a discard a console frame is not heard until the line has been idle. -/
theorem test_console_idle : got (exec (.frameDiscard .console .badCheck) stage) (fun s =>
    !s.takes .console && got (exec (.characterGapTimeout .console) s) (·.takes .console)) = true := by decide +kernel
theorem test_characters : characterBits .planning ⟨true, 0x05#8⟩ =
    [.start, .data true, .data false, .data true, .data false, .data false, .data false, .data false, .data false,
     .mark true, .stop] ∧ characterCycles .planning 31 = 5632 ∧ characterCycles .console 31 = 5120 := by decide +kernel
theorem test_another_hall : planningCommand 1 5 (framed 21 [7] ++ crcBytes (framed 21 [7])) = none := by decide +kernel
theorem test_responseSent : got (exec (.setLinkRate .console 7 (.fields 5)) stage) (fun s =>
    got (exec (.responseSent .console) s) fun t => t.links.console.divisor == 5 && !t.takes .console &&
      got (exec (.characterGapTimeout .console) t) (·.takes .console)) = true := by
  decide +kernel
theorem test_check : crcBytes [0x31, 0x32, 0x33, 0x34, 0x35, 0x36, 0x37, 0x38, 0x39] = [0x29, 0xB1] := by decide +kernel
theorem test_frame : frameCommand .planning false (framed 21 [7] ++ crcBytes (framed 21 [7])) =
    .poll .planning 7 (.fields ()) := by decide +kernel

/-! ## Clock, hall lines and timers -/

theorem test_secondPulse : got (exec (.secondPulse 1499) stage) (fun t => t.env.clock.second == 21001) = true := by
  decide +kernel
theorem test_secondPulse_late : got (exec (.secondPulse 1500) stage) (fun t => t.env.clock.second == 21002) = true := by
  decide +kernel
theorem test_pulseWatch : got (exec .pulseWatchExpiry stage) (fun t =>
    t.env.clock.second == 21002 && t.env.clock.status == .holdover && t.env.timebase == 2000) = true := by decide +kernel
theorem test_internalAdvance : got (exec .internalAdvance State.reset) (fun t =>
    t.env.clock.second == 1 && t.env.timebase == 1000) = true := by decide +kernel
theorem test_contactReport : got (exec (.contactReport 4 11 .mid) onAirStage) (fun t =>
    t.hall.xp 4 11 == .stuck && !(t.hall.tx 4).rfEnable && (t.hall.carriage 4).any (·.outcome == .cut)) = true := by
  decide +kernel
/-- Crosspoint 3/6 on its way to CLOSED. -/
def moving : Hall := startMove plant 0 { row := 3, col := 6, close := true, safety := false, askers := [.lock] } quiet

theorem test_moveTimeout : got (exec (.moveTimeout 3 6) { stage with hall := moving }) (fun t =>
      t.hall.xp 3 6 == .stuck && t.env.timebase == 10000) = true := by decide +kernel
theorem test_surveyLimit : got (exec .surveyLimit State.reset) (fun t =>
    t.hall.matrix.survey.isNone && t.hall.xp 11 24 == .stuck && t.env.timebase == 2000) = true := by decide +kernel
theorem test_settingReport : got (exec (.settingCompletionReport 23 ⟨1, .forward⟩) stage) (fun t =>
    (t.hall.antenna 23).setting == some ⟨1, .forward⟩ && !(t.hall.antenna 23).suspect) = true := by decide +kernel
theorem test_settingTimeout : got (exec (.settingTimeout 5) { stage with hall := quiet.setAntenna 5 fun a =>
    { a with change := some ⟨Setting.rest, 24000, none⟩ } }) (fun t =>
      (t.hall.antenna 5).suspect && (t.hall.antenna 5).change == none) = true := by decide +kernel
theorem test_statusReport : got (exec (.statusReport 4 ⟨false, false, true⟩) onAirStage) (fun t =>
    (t.hall.tx 4).state == .held && (t.hall.tx 4).reason == some .txFault) = true := by decide +kernel
theorem test_tuneComplete : got (exec (.tuneComplete 3 9410) { stage with hall := quiet.setTx 3 fun x =>
    { x with tune := some ⟨9410, none, 50000, some 50000, none⟩ } }) (fun t =>
      (t.hall.tx 3).tuned == some 9410 && (t.hall.tx 3).tune == none) = true := by decide +kernel
theorem test_tuneTimeout : got (exec (.tuneTimeout 3) { stage with hall := quiet.setTx 3 fun x =>
    { x with tune := some ⟨9410, none, 50000, some 50000, none⟩ } }) (fun t =>
      (t.hall.tx 3).reason == some .tune && t.env.timebase == 50000) = true := by decide +kernel
theorem test_rfUpTimeout : got (exec (.rfUpTimeout 3) { stage with hall := quiet.setTx 3 fun x =>
    { x with rfUp := some 10000 } }) (fun t => (t.hall.tx 3).reason == some .rfUp) = true := by decide +kernel
theorem test_rfDownTimeout : got (exec (.rfDownTimeout 3) { stage with hall := quiet.setTx 3 fun x =>
    { x with rfDown := some 8000 } }) (fun t => (t.hall.tx 3).reason == some .rfStuckOn) = true := by decide +kernel
theorem test_conversion : got (exec (.detectorConversion 4 800 720) onAirStage) (fun t =>
    (t.hall.tx 4).state == .recycling && !(t.hall.tx 4).rfEnable && (t.hall.monitor 4).displayed == some 189) = true := by
  decide +kernel
theorem test_conversion_floor : got (exec (.detectorConversion 4 39 39) onAirStage) (fun t =>
    (t.hall.tx 4).state == .serving && (t.hall.monitor 4).reflection == none) = true := by decide +kernel
/-- Transmitter 3 in the pause of a recycle. -/
def pausing : Hall :=
  (quiet.setMonitor 3 fun m => { m with recycle := some 10000 }).setTx 3 fun x => { x with state := .recycling }

theorem test_recycle : got (exec (.recycleTimerExpiry 3) { stage with hall := pausing }) (fun t =>
      (t.hall.tx 3).state == .serving && (t.hall.monitor 3).recycle == none) = true := by decide +kernel
theorem test_cleanRun : got (exec (.cleanRunExpiry 3) { stage with hall := quiet.setMonitor 3 fun m =>
    { m with cleanRun := some 300000, tripCount := 2 } }) (fun t => (t.hall.monitor 3).tripCount == 0) = true := by
  decide +kernel

/-! ## Start-up -/

theorem test_powerUp : got (exec (.powerUp ⟨5, true, 60⟩) { onAirStage with power := .absent }) (fun t =>
    t.env.clock.second == 21060 && t.env.clock.status == .holdover && t.links.address == 5 &&
      t.hall.table.records.length == 1 && (t.hall.carriage 4).isNone && !(t.hall.tx 4).rfEnable) = true := by decide +kernel
theorem test_restartAsserted : got (exec .restartAsserted onAirStage) (fun t =>
    t.power == .halted 0 && !(t.hall.tx 4).rfEnable && !t.takes .console) = true := by decide +kernel
theorem test_restartReleased : got (exec (.restartReleased ⟨5, false, 0⟩) { stage with power := .halted 0 }) (fun t =>
    t.hall.table.records.isEmpty && t.env.mode == .configuring) = true := by decide +kernel
theorem test_restartHeld5s : got (exec (.restartHeld5s 5) { stage with power := .halted 100 }) (fun t =>
    t.env.timebase == 5100 && t.env.clock.status == .unset && t.power == .running) = true := by decide +kernel
theorem test_mainSupplyLoss : got (exec .mainSupplyLoss onAirStage) (fun t =>
    t.power == .absent && !(t.hall.tx 4).rfEnable) = true := by decide +kernel
theorem test_idle : got (step State.reset) (fun t => t.env.timebase == 1 && t.pending == []) = true := by decide +kernel
theorem test_idle_expiry : got (step { State.reset with env := { State.reset.env with timebase := 1999 } }) (fun t =>
    t.pending == [.internalAdvance, .surveyLimit]) = true := by decide +kernel

/-! ## Witnesses: a state and operands that meet the premises of each obligation. -/

/-- A transmitter in LOCAL, for the console's commands. -/
def localStage : State := { stage with hall := quiet.setTx 3 fun x => { x with mode := .console, state := .console } }

/-- A hall that still waits for its survey, the planning link on. -/
def surveying : State := { stage with hall := State.reset.hall }

/-- A carriage of the programme in a phase. -/
def carriageIn (p : Phase) : Carriage := { onAirCarriage with phase := p }

/-- The quiet hall with that carriage, its column claimed. -/
def withCarriage (p : Phase) : Hall := (quiet.setCarriage 4 (some (carriageIn p))).setClaim 11 (some 4)

/-- The frames taken on both links, the premise of LinkRateAndUnknownCommand, PollReadsAndEmptiesOneSummary, AlarmMaskAndAcknowledgement, EnterAddsTheRecord, LoadBlockJudgesInTurn, AmendTakenByTheCarriage, WithdrawTakenByTheCarriage, TableCalendarAndCuesRead, ReadAntennaAnswer, TransmitterAndRoutesRead, SetClockMakesASettingPending, CalendarChangesAndLiveSeason, LocksEmptyTheirColumn, LocalCommandsAndTunes, LocalAndHeldTransitions, ParkedAmendmentTakenOrDropped, ConfigurationWrites and HallModesAndStop; those of the matrix outside the survey. -/
theorem witness_FramesTaken : stage.takes .planning = true ∧ stage.takes .console = true ∧
    stage.hall.matrix.survey = none ∧ Link.planning ≠ .console := by decide +kernel

/-- A state of each kind of power, and one in which a move has reached its limit. -/
theorem witness_EmptyQueueRunsTheTimebase : State.reset.pending = [] ∧ State.reset.power = .running ∧
    { State.reset with power := .absent }.power = .absent ∧ { State.reset with power := .halted 7 }.power = .halted 7 ∧
    got (step { stage with hall := moving, env := { plant with timebase := 9999 } }) (fun t =>
      t.pending.contains (.moveTimeout 3 6)) = true := by
  decide +kernel

theorem witness_EveryCommandCompletes : isSupplyEvent .surveyLimit = false := by decide +kernel

theorem witness_HaltedPartTakesOnlySupplyEvents :
    { State.reset with power := .halted 0 }.power ≠ .running ∧ isSupplyEvent .surveyLimit = false := by decide +kernel

/-- The STOP of a taken occurrence, due within the day. -/
def takenStop : Cue :=
  { kind := .stop, due := 812 * 86400 + 86399, transmitter := 4, booking := 330, day := 700, lead := 0, lateness := 0
    clamped := false, carry := false, said := { late := false, clamped := false } }

/-- A hall with one cue, due at a given second. -/
def cued (due : Nat) : Hall := quiet.mapLookahead fun l => { l with cues := [{ takenStop with due := due }] }

/-- A still hall; a report that is owed; a cue that is due, one that is not yet, none taken while UNSET or in the survey; a transmitter that keys again. -/
theorem witness_NothingFollowsInAStillHall : Still plant quiet ∧
    ({ quiet with agenda := [.held 3] }).agenda = [.held 3] ∧ (cued plant.now).agenda = [] ∧
    (cued plant.now).lookahead.cues = [{ takenStop with due := plant.now }] ∧ plant.clock.status ≠ .unset ∧
    (cued plant.now).matrix.survey = none ∧ plant.now < (cued (plant.now + 1)).lookahead.cues.head!.due ∧
    State.reset.env.clock.status = .unset ∧ State.reset.hall.matrix.survey ≠ none ∧
    4 ∈ ({ quiet with keyAgain := [4] }).keyAgain := by
  unfold Still
  decide +kernel

theorem witness_HallEventsLeaveLinksAndConfiguration :
    isHallEvent .surveyLimit = true ∧ stage.hall.matrix.survey = none := by decide +kernel

theorem witness_FramesDiscardedOrMalformed :
    frameOf (.poll .console 7 .malformed) = some (.console, 21, 7) ∧
    { stage with power := .absent }.takes .console = false ∧
    { stage with links := { stage.links with address := 0 } }.takes .planning = false ∧
    stage.takes .console = true ∧ isMalformed (.poll .console 7 .malformed) = true := by decide +kernel

theorem witness_FrameTakenBecomesOutstanding :
    frameOf (.unknownCommand .console 255 7) = some (.console, 255, 7) ∧ stage.takes .console = true := by decide +kernel

theorem witness_RefusalLeavesTheStateAsItStood :
    frameOf (.fetch .console 7 (.fields 9999)) = some (.console, 5, 7) ∧ stage.takes .console = true ∧
    got (exec (.fetch .console 7 (.fields 9999)) stage) (fun t =>
      t.links.console.outstanding == some ⟨5, 7, some (Answer.code .unknown)⟩) = true ∧
    ResultCode.unknown ≠ .done ∧ ResultCode.unknown ≠ .parked := by decide +kernel

/-- An answered request on both links, the planning receiver then disabled; a discard with and without an address. -/
theorem witness_LinkEventsAndResponses : stage.power = .running ∧
    (stage.links.side .planning).receiver ≠ .disabled ∧
    ((stage.reply .planning 5 7 (some (Answer.code .done))).links.side .planning).receiver = .disabled ∧
    (∀ address, Discard.badCheck ≠ .marked address) ∧
    (responseBytes ⟨5, 7, some (Answer.code .done)⟩).isSome = true ∧
    ((stage.reply .console 5 7 (some (Answer.code .done))).links.side .console).outstanding =
      some ⟨5, 7, some (Answer.code .done)⟩ ∧
    (stage.reply .console 5 7 (some (Answer.code .done))).power = .running := by
  refine ⟨by decide +kernel, by decide +kernel, by decide +kernel, (fun _ h => by cases h), by decide +kernel,
    by decide +kernel, by decide +kernel⟩

theorem witness_CheckOfFramesAndResponses : 255 < 256 ∧ (List.replicate 248 (0 : Byte)).length ≤ 248 ∧
    (responseBytes ⟨5, 7, some (Answer.code .done)⟩).isSome = true := by decide +kernel

theorem witness_CommandBodiesDecodeBack : (Instr.enter 7 (.fields programme)).wf = true ∧
    frameOf (.enter 7 (.fields programme)) = some (.planning, 1, 7) ∧
    (bodyBytes (.enter 7 (.fields programme))).isSome = true := by decide +kernel

/-- A conflict, and a refusal without a number, of the entry checks. -/
theorem witness_EntryChecksInOrder :
    entryCheck plant quiet false { another with start := 370 } = some (.conflictTx, some (330, false)) ∧
    entryCheck plant quiet false programme = some (.exists, none) := by decide +kernel

theorem witness_ConflictsOfARecord : CollectionsOk quiet ∧
    comparedWith (quiet.setSlot 4 (some programme)) { another with start := 370 } =
      [⟨330, false, programme⟩, ⟨330, true, programme⟩] := by
  unfold CollectionsOk
  decide +kernel

/-- On-air carriage of an amended booking. -/
theorem witness_AmendTakenByTheCarriage : radiating.carriage 4 = some onAirCarriage ∧ 4 < 12 ∧
    radiating.served 330 = some (4, onAirCarriage) := by decide +kernel

/-- Transmitter 4 claims one column. -/
theorem test_one_claim : ∀ a b, radiating.claim a = some 4 → radiating.claim b = some 4 → a = b := by
  have key : ∀ a, radiating.claim a = some 4 → a = 11 := by
    intro a x
    by_cases lt : a < 25
    · exact (by decide +kernel : ∀ a, a < 25 → radiating.claim a = some 4 → a = 11) a lt x
    · simp [Hall.claim, Machine.read, lt] at x
  exact fun a b x y => (key a x).trans (key b y).symm

theorem witness_WithdrawTakenByTheCarriage :
    quiet.matrix.survey = none ∧ (quiet.booking 330).isSome = true ∧ radiating.carriage 4 = some onAirCarriage ∧
    radiating.claim 11 = some 4 ∧ ∀ a b, radiating.claim a = some 4 → radiating.claim b = some 4 → a = b :=
  ⟨by decide +kernel, by decide +kernel, by decide +kernel, by decide +kernel, test_one_claim⟩

/-- No tune, and one whose time left is not a whole number of seconds. -/
theorem witness_TransmitterAndRoutesRead :
    let u : Tune := ⟨9410, none, 50000, some 50001, none⟩
    (quiet.tx 11).tune = none ∧ ((quiet.setTx 11 fun x => { x with tune := some u }).tx 11).tune = some u := by
  decide +kernel

theorem witness_PulsesAndInternalAdvances : stage.power = .running ∧ stage.env.clock.watch = some 2000 ∧
    stage.env.clock.status = .locked ∧ State.reset.env.clock.watch = none ∧
    State.reset.env.clock.status ≠ .locked ∧ State.reset.power = .running := by decide +kernel

/-- The plant on the first day of the next season. -/
def newSeason : Env := { plant with clock := { plant.clock with day := 900, second := 0 } }

/-- The same day, an earlier and a later day; a new live season, and a booking whose season has ended. -/
theorem witness_AdvanceHandedOn : plant.clock.day = 812 ∧ plant.clock.day ≠ 900 ∧ newSeason.clock.day ≠ 899 ∧
    (findLive newSeason quiet).calendar.live ≠ quiet.calendar.live ∧
    (quiet.table.records.filter fun r => seasonEnded newSeason quiet r.fields.season &&
      !(List.range 12).any fun t => (quiet.carriage t).any (·.booking == r.fields.number)) = [record] ∧
    (quiet.table.records.filter fun r => seasonEnded plant quiet r.fields.season) = [] := by
  decide +kernel

/-- The new season's day while the clock is UNSET. -/
def unsetSeason : Env := { newSeason with clock := { newSeason.clock with status := .unset } }

/-- A new day in UNSET: the live season is found, nothing is posted or retired, no entry leaves (R30, R37; log 39). -/
theorem test_unset_newDay : dayTests unsetSeason 899 (rescan unsetSeason) quiet =
    { quiet with calendar := { quiet.calendar with live := some 13 } } := by decide +kernel

/-- A calendar change in UNSET finds the live season (R37). -/
theorem test_unset_calendar : (changeCalendar unsetSeason [⟨14, 900⟩] quiet).calendar.live = some 14 := by decide +kernel

theorem witness_CalendarChangesAndLiveSeason : (quiet.calendar.entries.map (·.firstDay)).Pairwise (· < ·) ∧
    liveOn quiet.calendar.entries 699 = none ∧ liveOn quiet.calendar.entries 700 = some 12 ∧
    liveOn quiet.calendar.entries 900 = some 13 := by decide +kernel

/-- A list that is full of it. -/
def crowded : Hall := quiet.mapLookahead fun l => { l with cues := List.replicate 192 takenStop }

/-- A list full of the cues of tomorrow's occurrence, which is not taken. -/
def crowdedUntaken : Hall := quiet.mapLookahead fun l =>
  { l with cues := List.replicate 192 { takenStop with kind := .prepare, day := 813, due := plant.now + 3600 } }

/-- A backward clock step's rescan keeps a full list as it stands and leaves today's occurrence out (R35). -/
theorem test_backward_step_keeps : (rescanBack plant crowdedUntaken).lookahead.cues = crowdedUntaken.lookahead.cues ∧
    (rescanBack plant crowdedUntaken).lookahead.short = true := by decide +kernel

/-- An empty and a full list; an occurrence that is over, one that is not, one already readmitted; groups left out. -/
theorem witness_CueListAndReadmissions : State.reset.hall.matrix.survey ≠ none ∧ quiet.matrix.survey = none ∧ crowded.matrix.survey = none ∧
    crowded.lookahead.cues.length ≤ 192 ∧ (scan plant [4] crowded).lookahead.short = true ∧
    (∃ g rest, (fit 0 [makeGroup plant quiet 4 none (itemOf programme 812 true false) ⟨false, false⟩]).2 = g :: rest) ∧ quiet.booking 330 = some record ∧
    makeGroup plant quiet 4 none (itemOf programme 812 true false) ⟨false, false⟩ ∈
      groupsFor plant quiet [] .notDue 4 ∧
    endOn programme 811 ≤ plant.now ∧ plant.now < endOn programme 812 ∧ isReadmitted quiet 330 812 = false ∧
    isReadmitted (readmit plant 330 812 quiet) 330 812 = true := by
  refine ⟨by decide +kernel, by decide +kernel, by decide +kernel, by decide +kernel, by decide +kernel, ⟨_, _, rfl⟩, by decide +kernel,
    by decide +kernel, by decide +kernel, by decide +kernel, by decide +kernel, by decide +kernel⟩

/-- A local route of transmitter 3 whose close waits in the queue. -/
def localRoute : RouteRequest := { column := some 6, opens := [], placed := true, isLocal := true }

/-- The hall with that route, the transmitter in LOCAL. -/
def routing : Hall :=
  ((quiet.setRoute 3 (some localRoute)).mapMatrix fun m => { m with queue := [⟨3, 6, true, false, [.localRoute 3]⟩] }).setTx 3
    fun x => { x with mode := .console, state := .console }

/-- HELD takes the queued close of the local route away (R75). -/
theorem test_held_leaves_local : (enterHeld plant 3 .tune routing).matrix = quiet.matrix := by decide +kernel

/-- A close that ends CLOSED frees its slot and ends its route (R68, R78). -/
theorem test_moveClosed : (moveClosed 3 6 (moving.setRoute 3 (some { localRoute with isLocal := false }))).agenda =
    [.routeDone 3 6] ∧ (moveClosed 3 6 moving).xp 3 6 = .closed ∧
    Machine.read (moveClosed 3 6 moving).matrix.slots 0 = none := by decide +kernel

theorem witness_ContactReportsAndContradictions : stage.power = .running ∧ stage.hall.matrix.survey = none ∧
    (11 < 12 ∧ 24 < 25) ∧ 12 ≤ 12 ∧ 25 ≤ 25 ∧ colRoute (setStuck plant 0 11 radiating) 11 = some 4 ∧
    quiet.route 3 = none ∧ routing.route 3 = some localRoute := by decide +kernel

theorem witness_MoveTimeoutSticks : stage.power = .running ∧ moveLimit 3 6 moving = some 10000 ∧
    moveLimit 3 7 moving = none ∧ quiet.route 3 = none ∧ routing.route 3 = some localRoute := by decide +kernel

theorem witness_NoMoveUnderRf :
    canStart plant quiet { row := 11, col := 24, close := true, safety := false, askers := [.lock] } = true ∧
    (.drive 11 24 true) ∈ (giveSlots plant 4
      (enqueue { row := 11, col := 24, close := true, safety := false, askers := [.lock] } quiet)).orders ∧
    (.drive 11 24 true) ∉ quiet.orders := by decide +kernel

/-- An antenna with a setting wanted. -/
def wanting (h : Hall) (a : Nat) : Hall := h.setAntenna a fun x => { x with wanted := some Setting.rest }

/-- A setting that is sent, and the columns in which none is: RF on the route, a change that runs, the test load. -/
theorem test_sendSetting : (sendSetting plant 23 (wanting quiet 23)).orders = [.setAntenna 23 Setting.rest] ∧
    sendSetting radiatingEnv 11 (wanting radiating 11) = wanting radiating 11 ∧
    sendSetting plant 24 (wanting quiet 24) = wanting quiet 24 := by decide +kernel

theorem witness_SettingsSentAndReported : ((wanting quiet 23).antenna 23).wanted = some Setting.rest ∧
    ((wanting quiet 23).antenna 23).change = none ∧ colRoute (wanting quiet 23) 23 = none ∧
    (radiating.tx 4).rfEnable = true ∧ (quiet.antenna 23).wanted = none ∧ stage.power = .running ∧ colRoute radiating 11 = some 4 ∧
    ((quiet.setAntenna 23 fun a => { a with change := some ⟨Setting.rest, 24000, none⟩ }).antenna 23).change =
      some ⟨Setting.rest, 24000, none⟩ ∧ (quiet.antenna 23).change = none ∧ (quiet.antenna 23).suspect = false := by
  decide +kernel

/-- A claim that is granted, one refused, one already held. -/
theorem witness_ClaimsAreExclusive : claimAnswer plant quiet 4 24 = none ∧
    (claimAnswer State.reset.env quiet 4 24).isSome = true ∧ radiating.claim 11 = some 4 ∧
    ∀ a b, quiet.claim a = some 4 → quiet.claim b = some 4 → a = b := by
  refine ⟨by decide +kernel, by decide +kernel, by decide +kernel, ?_⟩
  intro a b x
  exfalso
  simp [quiet, allOpen, Matrix.start, Hall.claim, Machine.read] at x
  by_cases lt : a < 25 <;> simp [lt] at x

/-- A survey that waits for its last report. -/
def lastReport : State :=
  { surveying with hall := surveying.hall.mapMatrix fun m => { m with survey := some ⟨[⟨11, 24⟩], 2000, true, []⟩ } }

theorem witness_SurveyAndRequestsHeld : surveying.power = .running ∧ surveying.takes .console = true ∧
    surveying.hall.matrix.survey = some ⟨allCrosspoints, 2000, false, []⟩ ∧ stage.hall.matrix.survey = none ∧
    (∃ x ∈ allCrosspoints, x.row = 11 ∧ x.col = 24) ∧ (∃ x ∈ allCrosspoints, ¬ (x.row = 11 ∧ x.col = 24)) ∧
    (∀ x ∈ allCrosspoints, x.row < 12 ∧ x.col < 25) ∧
    lastReport.power = .running ∧ lastReport.hall.matrix.survey = some ⟨[⟨11, 24⟩], 2000, true, []⟩ ∧
    ∀ x ∈ ([⟨11, 24⟩] : List RowCol), x.row = 11 ∧ x.col = 24 := by decide +kernel

/-- An empty column; one not empty without a claim, and one claimed by a carriage of each kind; an empty one that is LOCK_PENDING. -/
theorem witness_LocksEmptyTheirColumn : columnEmpty quiet 24 = true ∧ columnEmpty radiating 11 = false ∧
    columnEmpty (quiet.setXp 0 5 .closed) 5 = false ∧ columnEmpty (withCarriage .working) 11 = false ∧
    columnEmpty (withCarriage .ending) 11 = false ∧ quiet.route 3 = none ∧ routing.route 3 = some localRoute ∧
    ((quiet.setAntenna 24 fun a => { a with lock := .pending }).antenna 24).lock = .pending ∧
    columnEmpty (quiet.setAntenna 24 fun a => { a with lock := .pending }) 24 = true := by
  decide +kernel

theorem witness_LocalCommandsAndTunes : localStage.takes .console = true ∧ (localStage.hall.tx 3).tune = none ∧
    (localStage.hall.tx 3).tuned ≠ some 9410 ∧
    ((quiet.setTx 3 fun x => { x with tuned := some 9410 }).tx 3).tuned = some 9410 ∧
    ((quiet.setTx 3 fun x => { x with tune := some ⟨9410, none, 0, none, none⟩ }).tx 3).tune.isSome = true ∧
    mayRadiate plant quiet 3 250 = false ∧ mayRadiate radiatingEnv radiating 4 250 = true ∧
    (radiatingEnv.indications 4).ready = true ∧ mayRadiate (Env.withReading 4 11 .closed plant) radiating 4 250 = true ∧
    (plant.indications 4).ready = false ∧ 300 ≤ (plant.txConfig 4).rated ∧ ¬ 301 ≤ (plant.txConfig 4).rated ∧
    300 ≤ (plant.antConfig 11).rating ∧ rowRoute radiating 4 = some 11 := by
  decide +kernel

/-- Transmitter 4 radiating the programme as booked under LOCAL, without a carriage. -/
def airing : Hall :=
  ((((radiating.setCarriage 4 none).setClaim 11 none).setAntenna 11 fun a => { a with setting := some Setting.rest }).setTx 4
    fun x => { x with mode := .console, state := .console })

/-- The hall a minute into the programme, transmitter 4 radiating. -/
def airingEnv : Env := { radiatingEnv with clock := { plant.clock with second := 21660 } }

/-- A HELD transmitter; one on air with nothing waiting; one in LOCAL with and without an occurrence to adopt. -/
theorem witness_LocalAndHeldTransitions :
    ((quiet.setTx 3 fun x => { x with mode := .console, state := .held }).tx 3).state = .held ∧ 3 < 12 ∧
    radiating.carriage 4 = some onAirCarriage ∧ onAirCarriage.phase ≠ .ending ∧ radiating.waitingList 4 = [] ∧
    (airing.tx 4).state = .console ∧ (localStage.hall.tx 3).state = .console ∧
    (adoptions airingEnv (enforceOne airingEnv 4 ((withdrawRoute 4 (airing.setTx 4 fun x =>
      { x with mode := .remote })).setTx 4 fun x => { x with state := .idle })) 4).map (·.antenna) = [11] ∧
    adoptions plant localStage.hall 3 = [] ∧
    (adoptions airingEnv airing 4).contains { booking := record, day := 812, antenna := 11, setting := Setting.rest } =
      true ∧ airedAsBooked airingEnv airing 4 programme = some (11, Setting.rest) := by decide +kernel

/-- The adopted occurrence: ON_AIR at once, late, its transmitter SERVING. -/
theorem test_adopted : gives (.giveRemote 7 (.fields 4)) { stage with env := airingEnv, hall := airing } .console .done
    (fun t => (t.hall.tx 4).state == .serving && (t.hall.tx 4).rfEnable &&
      (t.hall.carriage 4).any (fun c => c.phase == .onAir && c.outcome == .late)) = true := by decide +kernel

theorem witness_CollectionsOfTheAiringHall : CollectionsOk airing := by
  unfold CollectionsOk
  decide +kernel

/-- An RF enable that meets its conditions. -/
theorem witness_RfEnableOnlyWhileItsConditionsHold : RfSafe onAirStage ∧ (onAirStage.hall.tx 4).rfEnable = true ∧
    settledRoute radiatingEnv radiating 4 = some 11 ∧ settledRoute plant quiet 4 = none := by
  unfold RfSafe
  decide +kernel

theorem witness_RfOffAndHeldEntry : (radiating.tx 4).state ≠ .held ∧
    ((quiet.setTx 3 fun x => { x with state := .held }).tx 3).state = .held := by decide +kernel

/-- A hall in which a tune of the console waits for transmitter 3. -/
def tunePending : Hall := quiet.setTx 3 fun x => { x with pendingTune := some ⟨9410, .console⟩ }

/-- A pending LOCAL TUNE is taken of a LOCAL transmitter and dropped of another (R104, R105; log 32). -/
theorem test_pendingTune : takePendingTune plant 3 tunePending = quiet ∧
    ((takePendingTune plant 3 (tunePending.setTx 3 fun x => { x with mode := .console, state := .console })).tx 3).tune.map
      (·.frequency) = some 9410 := by decide +kernel

theorem witness_ReportsAndTimersOfATransmitter : (tunePending.tx 3).pendingTune = some ⟨9410, .console⟩ ∧
    (quiet.tx 3).pendingTune = none ∧ stage.power = .running ∧
    ((quiet.setTx 3 fun x => { x with tune := some ⟨9410, none, 0, some 50000, none⟩ }).tx 3).tune.bind (·.ends) =
      some 50000 ∧
    ((quiet.setTx 3 fun x => { x with rfUp := some 10000 }).tx 3).rfUp = some 10000 ∧
    ((quiet.setTx 3 fun x => { x with rfDown := some 8000 }).tx 3).rfDown = some 8000 ∧
    (quiet.tx 3).tune.bind (·.ends) = none ∧ (quiet.tx 3).rfUp = none ∧ (quiet.tx 3).rfDown = none := by decide +kernel

/-- The arc threshold, and the two sides of the trip decision. -/
theorem witness_EvaluationsTripAndWarn : reflection 800 720 = 921 ∧ reflection 800 719 < 921 ∧
    (threshold 18 < reflection 800 240 ∧ 1 ≤ ({ Monitor.start with tripRun := 1 }).tripRun) ∧
    ¬ (threshold 18 < reflection 800 240 ∧ 1 ≤ (radiating.monitor 4).tripRun) := by decide +kernel

/-- A trip's request that finds another phase is refused and remembered (R129, R141). -/
theorem test_trip_remembered : substituteOnAir plant 4 true (withCarriage .working) =
    (false, (withCarriage .working).setCarriage 4 (some { carriageIn .working with tripUsed := true })) := by decide +kernel

theorem witness_TripAndRecycle : (radiating.monitor 4).tripCount < plant.config.hall.retryLimit ∧
    radiating.carriage 4 = some onAirCarriage ∧ onAirCarriage.antenna < 25 ∧ (radiating.tx 4).state = .serving ∧
    plant.config.hall.retryLimit ≤ ((radiating.setMonitor 4 fun m => { m with tripCount := 3 }).monitor 4).tripCount ∧
    (pausing.monitor 3).recycle = some 10000 ∧ (quiet.monitor 3).recycle = none ∧
    ((quiet.setMonitor 3 fun m => { m with cleanRun := some 300000 }).monitor 3).cleanRun = some 300000 ∧
    (quiet.monitor 3).cleanRun = none ∧ quiet.carriage 4 = none ∧
    (withCarriage .ready).carriage 4 = some (carriageIn .ready) ∧
    freeAlternate radiatingEnv radiating 4 onAirCarriage = some (12, Setting.rest) ∧
    freeAlternate State.reset.env radiating 4 onAirCarriage = none := by decide +kernel

/-- A booking, a live row; a carriage on its main antenna with a usable alternate, and one without. -/
theorem witness_PrepareOpensACarriage : quiet.booking 330 = some record ∧ usable radiatingEnv radiating 4 11 = true ∧
    rowLive radiatingEnv radiating 4 = true ∧ usable plant quiet 4 11 = true ∧ rowLive plant quiet 4 = false ∧
    (withCarriage .working).carriage 4 = some (carriageIn .working) ∧
    freeAlternate plant (withCarriage .working) 4 (carriageIn .working) = some (12, Setting.rest) ∧
    freeAlternate State.reset.env (withCarriage .working) 4 (carriageIn .working) = none := by
  decide +kernel

/-- The programme that takes over from 330 without a break. -/
def follower : Booking := { record with fields := { programme with number := 331, start := 390 } }

/-- Its carry START. -/
def followerCue : Cue :=
  { kind := .start, due := onAirCarriage.stop, transmitter := 4, booking := 331, day := 812, lead := 0, lateness := 0
    clamped := false, carry := true, said := { late := false, clamped := false } }

/-- The hall on air with that carry-over in its cue list. -/
def passing : Hall :=
  { radiating with table := { radiating.table with records := [record, follower] }
                   lookahead := { radiating.lookahead with cues := [followerCue] } }

/-- An occurrence that waits behind the carriage. -/
def waitingHall : Hall := radiating.setWaiting 4 [{ booking := 331, day := 812, lead := 0, said := ⟨false, false⟩ }]

/-- A carriage on air; a carry-over it can pass to, and none; a waiting occurrence. -/
theorem witness_OnAirStartAndStop : radiating.carriage 4 = some onAirCarriage ∧ serving radiating 330 812 = some 4 ∧
    passTarget passing 4 onAirCarriage.stop onAirCarriage = some (followerCue, follower) ∧
    passTarget radiating 4 onAirCarriage.stop onAirCarriage = none ∧ serving waitingHall 331 812 = none ∧
    serving radiating 330 812 = some 4 ∧
    (waitingHall.waitingList 4).any (fun w => w.booking == 331 && w.day == 812) = true ∧
    ∀ u, u < 4 → (waitingHall.waitingList u).any (fun w => w.booking == 331 && w.day == 812) = false := by
  decide +kernel

/-- The pass at the STOP: ON_AIR for the next occurrence, RF as it was. -/
theorem test_pass : (stopCarriage radiatingEnv 4 onAirCarriage.stop true passing).carriage 4 =
    some { onAirCarriage with booking := 331, start := onAirCarriage.stop, stop := onAirCarriage.stop + 1800, lead := 0 } := by
  decide +kernel

/-- The STOP of a RECYCLING carriage ends it at once, RF present still on (R139). -/
theorem test_stop_recycling :
    (stopCarriage radiatingEnv 4 0 true (radiating.setTx 4 fun x => { x with state := .recycling })).carriage 4 = none := by
  decide +kernel

/-- With no cue of the occurrence left, a request to drop its cues is discarded (R54). -/
theorem test_dropCues_discarded : dropCues plant 4 330 812 quiet = quiet := by decide +kernel

/-- A carriage with its claim, and a booking whose entry can wait. -/
theorem witness_CarriageEndReleasesEverything : radiating.carriage 4 = some onAirCarriage ∧
    passing.booking 331 = some follower ∧ quiet.carriage 4 = none ∧ claimOf radiating 4 = some 11 ∧
    ∀ a b, radiating.claim a = some 4 → radiating.claim b = some 4 → a = b :=
  ⟨by decide +kernel, by decide +kernel, by decide +kernel, by decide +kernel, test_one_claim⟩

/-- A parked amendment; new fields whose main antenna is claimed, another's whose alternate is, and neither. -/
theorem witness_ParkedAmendmentTakenOrDropped : (radiating.setSlot 4 (some programme)).slotOf 4 = some programme ∧
    radiating.carriage 4 = some onAirCarriage ∧
    resolveBy radiatingEnv (fun a => radiating.claim a == some 4 || usable radiatingEnv radiating 4 a) programme =
      some (11, Setting.rest) ∧
    (radiating.claim 25 ≠ some 4 ∧ usable radiatingEnv radiating 4 25 = false) ∧
    resolveBy radiatingEnv (fun a => radiating.claim a == some 4 || usable radiatingEnv radiating 4 a)
      { programme with antenna := 25, alternate := some 11 } = some (11, Setting.rest) := by
  decide +kernel

/-- A write that keeps a transmitter present, and one that does not. -/
theorem witness_ConfigurationWrites : (inMode .configuring).takes .planning = true ∧ 11 < 12 ∧ 23 < 24 ∧ 24 < 25 ∧
    ((inMode .configuring).env.txConfig 11).present = txPlant.present ∧
    ((inMode .configuring).env.txConfig 11).present ≠ Config.txDefaults.present ∧
    (State.reset.env.txConfig 11).present ≠ txPlant.present ∧
    (quiet.table.records.map (·.fields.number)).Pairwise (· < ·) ∧
    lowestUnfit quiet (fitsAnt State.reset.env 11) = some 330 ∧ lowestUnfit quiet (fitsAnt plant 11) = none := by
  decide +kernel

/-- A window of one value displays as Table 31 gives; the records of Table 36, 19 and 17 at their defaults are in range (R138, R170). -/
theorem test_display_and_ranges : [51, 192, 307, 921, 1023].map (fun r => displayedRatio [r]) = [11, 15, 19, 189, 999] ∧
    hallRecordOk Config.hallDefaults = true ∧ txConfigOk Config.txDefaults = true ∧ antConfigOk Config.antDefaults = true := by
  decide +kernel

theorem witness_HallModesAndStop : (inMode .stopped).takes .planning = true ∧
    (withCarriage .ending).carriage 4 = some (carriageIn .ending) ∧
    (withCarriage .keying).carriage 4 = some (carriageIn .keying) ∧
    (withCarriage .ready).carriage 4 = some (carriageIn .ready) ∧ quiet.booking 9 = none ∧
    quiet.booking 330 = some record := by decide +kernel

theorem witness_StartUpsAndRetention : { stage with power := .absent }.power = .absent ∧ stage.power ≠ .absent ∧
    { stage with power := .halted 9 }.power = .halted 9 ∧ (stage.env.txConfig 11).present = true ∧
    CollectionsOk stage.hall := by
  unfold CollectionsOk
  decide +kernel

/-- Invariants held in a hall on air, and a step from it. -/
theorem witness_CollectionsKeepTheirForm : CollectionsOk onAirStage.hall ∧ got (step onAirStage) (fun _ => true) = true := by
  unfold CollectionsOk
  decide +kernel

theorem witness_ClockAndLinkFieldsStayInRange : InRange onAirStage ∧ got (step onAirStage) (fun _ => true) = true := by
  refine ⟨⟨by decide +kernel, by decide +kernel, by decide +kernel, ⟨by decide +kernel, by decide +kernel⟩,
    ⟨by decide +kernel, by decide +kernel⟩, by decide +kernel, by decide +kernel, fun i h => ?_⟩, by decide +kernel⟩
  simp [onAirStage, stage, State.reset] at h

end Sys2Proof.Tests
end

section
/-! Which operations leave the booking table and the calendar as they stand. -/

namespace Sys2Proof.Machine

/-- The booking table and the season calendar of a hall. -/
def Hall.books (h : Hall) : Table × Calendar := (h.table, h.calendar)

theorem table_of_books {h h' : Hall} (same : h'.books = h.books) : h'.table = h.table := congrArg Prod.fst same

theorem calendar_of_books {h h' : Hall} (same : h'.books = h.books) : h'.calendar = h.calendar := congrArg Prod.snd same

@[simp] theorem books_mk (table : Table) (calendar : Calendar) (look matrix txs carriages waiting parked monitors attention
    resume orders agenda keyAgain) :
    Hall.books ⟨table, calendar, look, matrix, txs, carriages, waiting, parked, monitors, attention, resume, orders,
      agenda, keyAgain⟩ = (table, calendar) := Prod.ext rfl rfl

@[simp] theorem books_eta (h : Hall) : (h.table, h.calendar) = h.books := Prod.ext rfl rfl

/-! ## Updates of the hall -/

@[simp] theorem setTx_books (h : Hall) (t : Nat) (f : Tx → Tx) : (h.setTx t f).books = h.books := Prod.ext rfl rfl
@[simp] theorem setCarriage_books (h : Hall) (t : Nat) (c : Option Carriage) : (h.setCarriage t c).books = h.books := Prod.ext rfl rfl
@[simp] theorem mapCarriage_books (h : Hall) (t : Nat) (f : Carriage → Carriage) :
    (h.mapCarriage t f).books = h.books := Prod.ext rfl rfl
@[simp] theorem setWaiting_books (h : Hall) (t : Nat) (l : List Waiting) : (h.setWaiting t l).books = h.books := Prod.ext rfl rfl
@[simp] theorem setSlot_books (h : Hall) (t : Nat) (r : Option Offered) : (h.setSlot t r).books = h.books := Prod.ext rfl rfl
@[simp] theorem setMonitor_books (h : Hall) (t : Nat) (f : Monitor → Monitor) : (h.setMonitor t f).books = h.books := Prod.ext rfl rfl
@[simp] theorem mapMatrix_books (h : Hall) (f : Matrix → Matrix) : (h.mapMatrix f).books = h.books := Prod.ext rfl rfl
@[simp] theorem setXp_books (h : Hall) (r c : Nat) (x : XpState) : (h.setXp r c x).books = h.books := Prod.ext rfl rfl
@[simp] theorem setAntenna_books (h : Hall) (a : Nat) (f : Antenna → Antenna) : (h.setAntenna a f).books = h.books := Prod.ext rfl rfl
@[simp] theorem setClaim_books (h : Hall) (a : Nat) (t : Option Nat) : (h.setClaim a t).books = h.books := Prod.ext rfl rfl
@[simp] theorem setRoute_books (h : Hall) (t : Nat) (r : Option RouteRequest) : (h.setRoute t r).books = h.books := Prod.ext rfl rfl
@[simp] theorem mapLookahead_books (h : Hall) (f : Lookahead → Lookahead) : (h.mapLookahead f).books = h.books := Prod.ext rfl rfl
@[simp] theorem post_books (e : Env) (k : EventKind) (v : Nat) (h : Hall) : (post e k v h).books = h.books := Prod.ext rfl rfl
@[simp] theorem send_books (o : Order) (h : Hall) : (send o h).books = h.books := Prod.ext rfl rfl
@[simp] theorem raise_books (r : Report) (h : Hall) : (raise r h).books = h.books := Prod.ext rfl rfl
@[simp] theorem raiseFirst_books (r : Report) (h : Hall) : (raiseFirst r h).books = h.books := Prod.ext rfl rfl

theorem foldl_books (l : List α) (f : Hall → α → Hall) (each : ∀ h a, (f h a).books = h.books) (h : Hall) :
    (l.foldl f h).books = h.books :=
  foldl_keeps (·.books = h.books) l f (fun a _ _ same => (each _ a).trans same) h rfl

theorem forEach_books (l : List Nat) (f : Nat → Hall → Hall) (each : ∀ i h, (f i h).books = h.books) (h : Hall) :
    (forEach l f h).books = h.books := foldl_books l _ (fun h i => each i h) h

/-! ## The lookahead unit -/

theorem OnlyCues.books {h h' : Hall} (only : OnlyCues h h') : h'.books = h.books := by
  rw [show h' = _ from only]; rfl

@[simp] theorem scan_books (e : Env) (ts : List Nat) (h : Hall) : (scan e ts h).books = h.books :=
  (onlyCues_scan e ts h).books
@[simp] theorem refresh_books (e : Env) (t : Nat) (h : Hall) : (refresh e t h).books = h.books :=
  (onlyCues_refresh e t h).books
@[simp] theorem rescan_books (e : Env) (h : Hall) : (rescan e h).books = h.books := (onlyCues_rescan e h).books
@[simp] theorem rescanBack_books (e : Env) (h : Hall) : (rescanBack e h).books = h.books := (onlyCues_rescanBack e h).books
@[simp] theorem refill_books (e : Env) (h : Hall) : (refill e h).books = h.books := (onlyCues_refill e h).books
@[simp] theorem readmit_books (e : Env) (n d : Nat) (h : Hall) : (readmit e n d h).books = h.books :=
  (onlyCues_readmit e n d h).books
@[simp] theorem moveStop_books (e : Env) (t n d due : Nat) (h : Hall) : (moveStop e t n d due h).books = h.books :=
  (onlyCues_moveStop e t n d due h).books
@[simp] theorem dropCues_books (e : Env) (t n d : Nat) (h : Hall) : (dropCues e t n d h).books = h.books :=
  (onlyCues_dropCues e t n d h).books

@[simp] theorem minuteScan_books (e : Env) (h : Hall) : (minuteScan e h).books = h.books := by
  unfold minuteScan
  dsimp only
  repeat' split
  all_goals simp

theorem takeDue_books {e : Env} {h h' : Hall} {c : Cue} (some' : takeDue e h = some (c, h')) : h'.books = h.books := by
  unfold takeDue at some'
  repeat' split at some'
  all_goals first | cases some'; rfl | cases some'

/-! ## The transmitter sequencer -/

@[simp] theorem withdrawRoute_books (t : Nat) (h : Hall) : (withdrawRoute t h).books = h.books := Prod.ext rfl rfl

@[simp] theorem leaveLocal_books (t : Nat) (h : Hall) : (leaveLocal t h).books = h.books := by
  rw [leaveLocal_frame]; rfl

@[simp] theorem sendTx_books (e : Env) (t : Nat) (o : Order) (h : Hall) : (sendTx e t o h).books = h.books := by
  unfold sendTx
  split <;> simp

@[simp] theorem rfOff_books (e : Env) (t : Nat) (h : Hall) : (rfOff e t h).books = h.books := by
  rw [rfOff_frame]; rfl

@[simp] theorem keyUp_books (e : Env) (t p : Nat) (h : Hall) : (keyUp e t p h).books = h.books := by simp [keyUp]

@[simp] theorem tellInterlock_books (t : Nat) (rs : List Requester) (h : Hall) :
    (tellInterlock t rs h).books = h.books :=
  foldl_books rs _ (fun h r => by split <;> simp) h

@[simp] theorem rfOnChecked_books (e : Env) (t p : Nat) (rs : List Requester) (h : Hall) :
    (rfOnChecked e t p rs h).books = h.books := by
  unfold rfOnChecked
  dsimp only
  repeat' split
  all_goals simp

@[simp] theorem setPower_books (e : Env) (t p : Nat) (h : Hall) : (setPower e t p h).books = h.books := by
  unfold setPower
  dsimp only
  repeat' split
  all_goals simp

@[simp] theorem rfOn_books (e : Env) (t p : Nat) (r : Requester) (h : Hall) : (rfOn e t p r h).books = h.books := by
  unfold rfOn
  dsimp only
  repeat' split
  all_goals simp

@[simp] theorem takeTune_books (e : Env) (t f : Nat) (r : Requester) (h : Hall) : (takeTune e t f r h).books = h.books := by
  rw [takeTune_frame]; rfl

@[simp] theorem tellTuned_books (t f : Nat) (r : Option Requester) (h : Hall) : (tellTuned t f r h).books = h.books := by
  unfold tellTuned
  split <;> simp

@[simp] theorem askTune_books (e : Env) (t f : Nat) (h : Hall) : (askTune e t f h).books = h.books := by
  unfold askTune
  repeat' split
  all_goals simp

@[simp] theorem takePendingTune_books (e : Env) (t : Nat) (h : Hall) : (takePendingTune e t h).books = h.books := by
  rw [takePendingTune_frame]; rfl

@[simp] theorem withdrawTune_books (e : Env) (t : Nat) (h : Hall) : (withdrawTune e t h).books = h.books := by
  rw [withdrawTune_frame]; rfl

@[simp] theorem enterHeld_books (e : Env) (t : Nat) (r : HeldReason) (h : Hall) : (enterHeld e t r h).books = h.books := by
  unfold enterHeld
  split <;> simp

@[simp] theorem carriageOpened_books (t : Nat) (h : Hall) : (carriageOpened t h).books = h.books := Prod.ext rfl rfl

@[simp] theorem carriageEnded_books (t : Nat) (h : Hall) : (carriageEnded t h).books = h.books := Prod.ext rfl rfl

@[simp] theorem tripTx_books (e : Env) (t : Nat) (h : Hall) : (tripTx e t h).books = h.books := by simp [tripTx]

@[simp] theorem recycleTx_books (e : Env) (t : Nat) (h : Hall) : (recycleTx e t h).books = h.books := by
  unfold recycleTx
  split <;> simp

@[simp] theorem enforceOne_books (e : Env) (t : Nat) (h : Hall) : (enforceOne e t h).books = h.books := by
  rw [enforceOne_frame]; rfl

@[simp] theorem enforceRf_books (e : Env) (h : Hall) : (enforceRf e h).books = h.books :=
  forEach_books _ _ (enforceOne_books e) h

@[simp] theorem rfWentOff_books (e : Env) (t : Nat) (h : Hall) : (rfWentOff e t h).books = h.books := by
  unfold rfWentOff
  dsimp only
  repeat' split
  all_goals simp

@[simp] theorem becameReady_books (e : Env) (t : Nat) (h : Hall) : (becameReady e t h).books = h.books := by
  unfold becameReady
  dsimp only
  repeat' split
  all_goals simp

@[simp] theorem takeRfPresent_books (e : Env) (t : Nat) (old new : Indications) (h : Hall) :
    (takeRfPresent e t old new h).books = h.books := by
  unfold takeRfPresent rfCameOn
  repeat' split
  all_goals simp

@[simp] theorem takeFault_books (e : Env) (t : Nat) (old new : Indications) (h : Hall) :
    (takeFault e t old new h).books = h.books := by
  unfold takeFault
  split <;> simp

@[simp] theorem takeReady_books (e : Env) (t : Nat) (old new : Indications) (h : Hall) :
    (takeReady e t old new h).books = h.books := by
  unfold takeReady
  split <;> simp

@[simp] theorem tuneReported_books (e : Env) (t f : Nat) (h : Hall) : (tuneReported e t f h).books = h.books := by
  unfold tuneReported
  repeat' split
  all_goals simp

@[simp] theorem tuneExpired_books (e : Env) (t : Nat) (h : Hall) : (tuneExpired e t h).books = h.books := by
  unfold tuneExpired
  split <;> simp

@[simp] theorem rfUpExpired_books (e : Env) (t : Nat) (h : Hall) : (rfUpExpired e t h).books = h.books := by
  unfold rfUpExpired
  dsimp only
  repeat' split
  all_goals simp

@[simp] theorem rfDownExpired_books (e : Env) (t : Nat) (h : Hall) : (rfDownExpired e t h).books = h.books := by
  unfold rfDownExpired
  dsimp only
  repeat' split
  all_goals simp

/-! ## The matrix controller -/

@[simp] theorem drainOverflow_books (h : Hall) : (drainOverflow h).books = h.books := Prod.ext rfl rfl

@[simp] theorem askMove_books (m : Move) (h : Hall) : (askMove m h).books = h.books := by
  unfold askMove enqueue
  dsimp only
  repeat' split
  all_goals simp

@[simp] theorem askSafetyOpen_books (who : Asker) (r c : Nat) (h : Hall) : (askSafetyOpen who r c h).books = h.books :=
  askMove_books _ h

@[simp] theorem tellRouteDone_books (t a : Nat) (l : Bool) (h : Hall) : (tellRouteDone t a l h).books = h.books := by
  unfold tellRouteDone
  split <;> simp

@[simp] theorem tellRouteFailed_books (t : Nat) (q : RouteRequest) (why : RouteFailure) (h : Hall) :
    (tellRouteFailed t q why h).books = h.books := by
  unfold tellRouteFailed
  repeat' split
  all_goals simp

@[simp] theorem routeStep_books (t : Nat) (h : Hall) : (routeStep t h).books = h.books := by
  unfold routeStep
  repeat' split
  all_goals simp

@[simp] theorem beginRoute_books (t : Nat) (a : Option Nat) (l : Bool) (opens : List RowCol) (h : Hall) :
    (beginRoute t a l opens h).books = h.books := by
  unfold beginRoute
  simp [foldl_books]

@[simp] theorem askRoute_books (t a : Nat) (h : Hall) : (askRoute t a h).books = h.books := by
  unfold askRoute
  dsimp only
  repeat' split
  all_goals simp

@[simp] theorem askLocalRoute_books (t : Nat) (a : Option Nat) (h : Hall) : (askLocalRoute t a h).books = h.books := by
  simp [askLocalRoute]

@[simp] theorem routeSawOpen_books (r c t : Nat) (h : Hall) : (routeSawOpen r c t h).books = h.books := by
  unfold routeSawOpen
  repeat' split
  all_goals simp

@[simp] theorem freeSlot_books (r c : Nat) (h : Hall) : (freeSlot r c h).books = h.books := Prod.ext rfl rfl

@[simp] theorem moveOpened_books (r c : Nat) (h : Hall) : (moveOpened r c h).books = h.books := by
  unfold moveOpened
  rw [forEach_books _ _ (routeSawOpen_books r c)]
  simp

@[simp] theorem moveClosed_books (r c : Nat) (h : Hall) : (moveClosed r c h).books = h.books := by
  unfold moveClosed
  rw [foldl_books _ _ fun h m => askMove_books m h]
  repeat' split
  all_goals simp

@[simp] theorem failRoute_books (r c t : Nat) (h : Hall) : (failRoute r c t h).books = h.books := by
  unfold failRoute
  repeat' split
  all_goals simp

@[simp] theorem becameStuck_books (r c : Nat) (h : Hall) : (becameStuck r c h).books = h.books := by
  unfold becameStuck
  dsimp only
  repeat' split
  all_goals simp [forEach_books]

@[simp] theorem setStuck_books (e : Env) (r c : Nat) (h : Hall) : (setStuck e r c h).books = h.books := Prod.ext rfl rfl

@[simp] theorem takeDown_books (e : Env) (t : Nat) (h : Hall) : (takeDown e t h).books = h.books := by
  unfold takeDown
  split <;> simp

@[simp] theorem contradiction_books (e : Env) (r c : Nat) (h : Hall) : (contradiction e r c h).books = h.books := by
  unfold contradiction
  dsimp only
  split <;> simp

@[simp] theorem takeContact_books (e : Env) (r c : Nat) (x : Reading) (h : Hall) :
    (takeContact e r c x h).books = h.books := by
  unfold takeContact
  dsimp only
  repeat' split
  all_goals simp

@[simp] theorem moveExpired_books (e : Env) (r c : Nat) (h : Hall) : (moveExpired e r c h).books = h.books := by
  unfold moveExpired
  split <;> simp

@[simp] theorem releaseClaim_books (t a : Nat) (h : Hall) : (releaseClaim t a h).books = h.books := Prod.ext rfl rfl

@[simp] theorem releaseAny_books (t : Nat) (h : Hall) : (releaseAny t h).books = h.books := by
  unfold releaseAny
  split <;> simp

@[simp] theorem grantClaim_books (e : Env) (t a : Nat) (h : Hall) : (grantClaim e t a h).books = h.books := by
  unfold grantClaim
  split <;> simp

@[simp] theorem markSuspect_books (e : Env) (a : Nat) (h : Hall) : (markSuspect e a h).books = h.books := by
  unfold markSuspect
  split <;> simp

@[simp] theorem askSetting_books (e : Env) (t a : Nat) (s : Setting) (h : Hall) : (askSetting e t a s h).books = h.books := by
  unfold askSetting
  repeat' split
  all_goals simp

@[simp] theorem sendSetting_books (e : Env) (a : Nat) (h : Hall) : (sendSetting e a h).books = h.books := by
  unfold sendSetting
  repeat' split
  all_goals simp

@[simp] theorem tellSetting_books (a : Nat) (c : SettingChange) (r : Bool) (h : Hall) :
    (tellSetting a c r h).books = h.books := by
  unfold tellSetting
  repeat' split
  all_goals simp

@[simp] theorem settingFault_books (e : Env) (a : Nat) (h : Hall) : (settingFault e a h).books = h.books := by
  simp [settingFault]

@[simp] theorem settingReported_books (e : Env) (a : Nat) (s : Setting) (h : Hall) :
    (settingReported e a s h).books = h.books := by
  unfold settingReported
  dsimp only
  repeat' split
  all_goals simp

@[simp] theorem settingExpired_books (e : Env) (a : Nat) (h : Hall) : (settingExpired e a h).books = h.books := by
  unfold settingExpired
  split <;> simp

@[simp] theorem completeLock_books (e : Env) (a : Nat) (h : Hall) : (completeLock e a h).books = h.books := by
  unfold completeLock
  split <;> simp

@[simp] theorem failLocked_books (a t : Nat) (h : Hall) : (failLocked a t h).books = h.books := by
  unfold failLocked
  repeat' split
  all_goals simp

@[simp] theorem leaveFree_books (l : LockState) (a : Nat) (h : Hall) : (leaveFree l a h).books = h.books := by
  simp [leaveFree, forEach_books]

@[simp] theorem makePending_books (a : Nat) (h : Hall) : (makePending a h).books = h.books := leaveFree_books _ a h

@[simp] theorem openColumn_books (who : Asker) (a : Nat) (h : Hall) : (openColumn who a h).books = h.books :=
  forEach_books _ _ (fun t => askSafetyOpen_books who t a) h

@[simp] theorem giveSlots_books (e : Env) (n : Nat) (h : Hall) : (giveSlots e n h).books = h.books := by
  induction n generalizing h with
  | zero => rfl
  | succ n ih =>
    unfold giveSlots
    split
    · rw [ih]; simp [startMove]
    · rfl

@[simp] theorem matrixPass_books (e : Env) (h : Hall) : (matrixPass e h).books = h.books := by
  unfold matrixPass
  dsimp only
  split <;> simp [forEach_books]

end Sys2Proof.Machine
end

section
/-! The form of the booking table and the calendar (R4, R36), kept by every operation of the blocks. -/

namespace Sys2Proof.Machine

/-- CollectionsOk, said of the table and the calendar alone. -/
def BooksOk (b : Table × Calendar) : Prop :=
  (b.1.records.map (·.fields.number)).Pairwise (· < ·) ∧ b.1.records.length ≤ Config.tableCapacity ∧
  (b.2.entries.map (·.firstDay)).Pairwise (· < ·) ∧ (b.2.entries.map (·.id)).Nodup ∧
  b.2.entries.length ≤ Config.calendarCapacity

theorem collectionsOk_iff (h : Hall) : CollectionsOk h ↔ BooksOk h.books := Iff.rfl

/-! ## The four ways the table and the calendar change but for an addition -/

/-- Records and entries that are some of those that stood, in their order, keep the form. -/
theorem BooksOk.of_sublist {b b' : Table × Calendar} (ok : BooksOk b)
    (records : (b'.1.records.map (·.fields.number)).Sublist (b.1.records.map (·.fields.number)))
    (entries : b'.2.entries.Sublist b.2.entries) : BooksOk b' := by
  obtain ⟨numbers, room, days, ids, places⟩ := ok
  have shorter := records.length_le
  simp only [List.length_map] at shorter
  exact ⟨numbers.sublist records, shorter.trans room, days.sublist (entries.map _), ids.sublist (entries.map _),
    entries.length_le.trans places⟩

/-- Records changed in place keep the form when they keep their numbers. -/
theorem mapBooking_ok {h : Hall} (n : Nat) (f : Booking → Booking)
    (same : ∀ b, b.fields.number = n → (f b).fields.number = n) (ok : BooksOk h.books) :
    BooksOk (h.mapBooking n f).books := by
  have numbers : (h.mapBooking n f).table.records.map (·.fields.number) = h.table.records.map (·.fields.number) := by
    rw [mapBooking_table, List.map_map]
    refine List.map_congr_left fun b _ => ?_
    by_cases is : b.fields.number = n
    · simp [is, same b is]
    · simp [is]
  exact ok.of_sublist (numbers ▸ List.Sublist.refl _) (List.Sublist.refl _)

@[simp] theorem nearlyFullTest_ok (e : Env) {h : Hall} (ok : BooksOk h.books) : BooksOk (nearlyFullTest e h).books := by
  unfold nearlyFullTest
  dsimp only
  repeat' split
  all_goals exact ok

@[simp] theorem findLive_ok (e : Env) {h : Hall} (ok : BooksOk h.books) : BooksOk (findLive e h).books := ok

@[simp] theorem seasonTest_ok (e : Env) (n : Nat) {h : Hall} (ok : BooksOk h.books) :
    BooksOk (seasonTest e n h).books := by
  unfold seasonTest
  split
  · exact ok.of_sublist (List.Sublist.refl _) List.filter_sublist
  · exact ok

@[simp] theorem calendarTest_ok (e : Env) {h : Hall} (ok : BooksOk h.books) : BooksOk (calendarTest e h).books :=
  ok.of_sublist (List.Sublist.refl _) List.filter_sublist

/-! ## The booking table -/

theorem foldl_ok (l : List α) (f : Hall → α → Hall) (each : ∀ h a, BooksOk h.books → BooksOk (f h a).books) {h : Hall}
    (ok : BooksOk h.books) : BooksOk (l.foldl f h).books :=
  foldl_keeps (BooksOk ·.books) l f (fun a _ h => each h a) h ok

theorem forEach_ok (l : List Nat) (f : Nat → Hall → Hall) (each : ∀ i h, BooksOk h.books → BooksOk (f i h).books)
    {h : Hall} (ok : BooksOk h.books) : BooksOk (forEach l f h).books := foldl_ok l _ (fun h i => each i h) ok

@[simp] theorem replaceBooking_ok (e : Env) (b : Offered) {h : Hall} (ok : BooksOk h.books) :
    BooksOk (replaceBooking e b h).books := by
  unfold replaceBooking
  split
  · exact ok
  · dsimp only
    rw [scan_books]
    exact mapBooking_ok _ _ (fun _ _ => rfl) ok

@[simp] theorem removeBookings_ok (e : Env) (gone : List Booking) {h : Hall} (ok : BooksOk h.books) :
    BooksOk (removeBookings e gone h).books := by
  unfold removeBookings
  refine foldl_ok _ _ (fun h b ok => seasonTest_ok e _ ok) ?_
  rw [scan_books]
  exact ok.of_sublist (List.filter_sublist.map _) (List.Sublist.refl _)

@[simp] theorem removeBooking_ok (e : Env) (n : Nat) {h : Hall} (ok : BooksOk h.books) :
    BooksOk (removeBooking e n h).books := by
  unfold removeBooking
  split
  · exact ok
  · simp [ok]

@[simp] theorem retire_ok (e : Env) (l : List Booking) {h : Hall} (ok : BooksOk h.books) :
    BooksOk (retire e l h).books := by
  unfold retire
  dsimp only
  split
  · exact ok
  · simp [ok]

@[simp] theorem setLastRun_ok (n d : Nat) {h : Hall} (ok : BooksOk h.books) : BooksOk (setLastRun n d h).books :=
  mapBooking_ok _ _ (fun _ is => is) ok

@[simp] theorem writeOutcome_ok (n : Nat) (o : RunOutcome) {h : Hall} (ok : BooksOk h.books) :
    BooksOk (writeOutcome n o h).books := mapBooking_ok _ _ (fun _ is => is) ok

@[simp] theorem settleOutcome_ok (e : Env) (n : Nat) (o : RunOutcome) {h : Hall} (ok : BooksOk h.books) :
    BooksOk (settleOutcome e n o h).books := by
  unfold settleOutcome
  dsimp only
  repeat' split
  all_goals simp [ok]

@[simp] theorem applyParked_ok (e : Env) (t : Nat) {h : Hall} (ok : BooksOk h.books) :
    BooksOk (applyParked e t h).books := by
  unfold applyParked
  split
  · exact ok
  · next p _ =>
    have applied : BooksOk (replaceBooking e p (h.setSlot t none)).books := by simp [ok]
    dsimp only
    cases h.booking p.number with
    | none => exact applied
    | some b => exact seasonTest_ok e _ applied

@[simp] theorem dropParked_ok (e : Env) (t : Nat) {h : Hall} (ok : BooksOk h.books) :
    BooksOk (dropParked e t h).books := by
  unfold dropParked
  split
  · exact ok
  · simp [ok]

@[simp] theorem serviceOver_ok (e : Env) (t n : Nat) {h : Hall} (ok : BooksOk h.books) :
    BooksOk (serviceOver e t n h).books := by
  have applied := applyParked_ok e t ok
  unfold serviceOver
  dsimp only
  split <;> simp [applied]

/-! ## The carriage controller -/

@[simp] theorem enterRfDown_books (e : Env) (t : Nat) (h : Hall) : (enterRfDown e t h).books = h.books := by
  simp [enterRfDown]

@[simp] theorem askRouteAndSetting_books (e : Env) (t : Nat) (h : Hall) : (askRouteAndSetting e t h).books = h.books := by
  unfold askRouteAndSetting
  split <;> simp

@[simp] theorem enterWorking_books (e : Env) (t : Nat) (h : Hall) : (enterWorking e t h).books = h.books := by
  unfold enterWorking
  dsimp only
  repeat' split
  all_goals simp

@[simp] theorem enterKeying_books (e : Env) (t : Nat) (h : Hall) : (enterKeying e t h).books = h.books := by
  unfold enterKeying
  split <;> simp

@[simp] theorem workCheck_books (e : Env) (t : Nat) (h : Hall) : (workCheck e t h).books = h.books := by
  unfold workCheck
  repeat' split
  all_goals simp

@[simp] theorem openCarriage_books (e : Env) (t : Nat) (b : Offered) (w : Waiting) (a : Nat) (s : Setting) (h : Hall) :
    (openCarriage e t b w a s h).books = h.books := by
  unfold openCarriage
  dsimp only
  repeat' split
  all_goals simp

@[simp] theorem tryOpen_ok (e : Env) (t : Nat) (b : Offered) (w : Waiting) {h : Hall} (ok : BooksOk h.books) :
    BooksOk (tryOpen e t b w h).books := by
  unfold tryOpen
  repeat' split
  all_goals simp [ok]

@[simp] theorem reachEntry_ok (e : Env) (t : Nat) (w : Waiting) {h : Hall} (ok : BooksOk h.books) :
    BooksOk (reachEntry e t w h).books := by
  unfold reachEntry
  dsimp only
  repeat' split
  all_goals simp [ok]

@[simp] theorem reachEntries_ok (e : Env) (t : Nat) (l : List Waiting) {h : Hall} (ok : BooksOk h.books) :
    BooksOk (reachEntries e t l h).books := by
  induction l generalizing h with
  | nil => exact ok
  | cons w rest ih =>
    have reached : BooksOk (reachEntry e t w (h.setWaiting t rest)).books := reachEntry_ok e t w ok
    unfold reachEntries
    dsimp only
    split
    · exact reached
    · exact ih reached

@[simp] theorem reachWaiting_ok (e : Env) (t : Nat) {h : Hall} (ok : BooksOk h.books) :
    BooksOk (reachWaiting e t h).books := by
  unfold reachWaiting
  split <;> simp [ok]

@[simp] theorem detach_books (e : Env) (t : Nat) (h : Hall) : (detach e t h).books = h.books := by
  simp [detach, monitorEnd]

@[simp] theorem endCarriage_ok (e : Env) (t : Nat) {h : Hall} (ok : BooksOk h.books) :
    BooksOk (endCarriage e t h).books := by
  unfold endCarriage
  split
  · exact ok
  · next c _ =>
    have settled := settleOutcome_ok e c.booking c.outcome ok
    have served : BooksOk (serviceOver e t c.booking (detach e t (settleOutcome e c.booking c.outcome h))).books := by
      simp [settled]
    simp [served]

@[simp] theorem endWith_ok (e : Env) (t : Nat) (o : RunOutcome) {h : Hall} (ok : BooksOk h.books) :
    BooksOk (endWith e t o h).books := endCarriage_ok e t ok

@[simp] theorem enterEnding_books (e : Env) (t : Nat) (o : RunOutcome) (h : Hall) :
    (enterEnding e t o h).books = h.books := by
  simp [enterEnding]

@[simp] theorem endingForSent_ok (e : Env) (t : Nat) (o : RunOutcome) {h : Hall} (ok : BooksOk h.books) :
    BooksOk (endingForSent e t o h).books := by
  unfold endingForSent
  dsimp only
  repeat' split
  all_goals simp [ok]

@[simp] theorem abandon_ok (e : Env) (t : Nat) {h : Hall} (ok : BooksOk h.books) : BooksOk (abandon e t h).books := by
  unfold abandon
  dsimp only
  repeat' split
  all_goals simp [ok]

@[simp] theorem moveToAlternate_books (e : Env) (t a : Nat) (s : Setting) (c : Carriage) (h : Hall) :
    (moveToAlternate e t a s c h).books = h.books := by
  simp [moveToAlternate]

@[simp] theorem resolveAgain_ok (e : Env) (t : Nat) {h : Hall} (ok : BooksOk h.books) :
    BooksOk (resolveAgain e t h).books := by
  unfold resolveAgain
  dsimp only
  split
  · exact ok
  · split
    · simp [ok]
    · split <;> simp [ok]

@[simp] theorem reprepare_books (e : Env) (t : Nat) (r : Bool) (h : Hall) : (reprepare e t r h).books = h.books := by
  unfold reprepare
  dsimp only
  split <;> simp

@[simp] theorem substituteOnAir_books (e : Env) (t : Nat) (trip : Bool) (h : Hall) :
    (substituteOnAir e t trip h).2.books = h.books := by
  unfold substituteOnAir
  dsimp only
  repeat' split
  all_goals simp

@[simp] theorem takePrepare_ok (e : Env) (c : Cue) {h : Hall} (ok : BooksOk h.books) :
    BooksOk (takePrepare e c h).books := by
  have ran := setLastRun_ok c.booking c.day ok
  unfold takePrepare
  dsimp only
  repeat' split
  all_goals simp [ok, ran]

@[simp] theorem takeStart_books (e : Env) (c : Cue) (h : Hall) : (takeStart e c h).books = h.books := by
  unfold takeStart
  repeat' split
  all_goals simp

@[simp] theorem passOver_ok (e : Env) (t : Nat) (c : Carriage) (x : Cue) (b : Booking) {h : Hall}
    (ok : BooksOk h.books) : BooksOk (passOver e t c x b h).books := by
  have settled := settleOutcome_ok e c.booking c.outcome ok
  unfold passOver
  dsimp only
  split <;> simp [settled]

@[simp] theorem endAtStop_ok (e : Env) (t : Nat) (o : RunOutcome) {h : Hall} (ok : BooksOk h.books) :
    BooksOk (endAtStop e t o h).books := by
  unfold endAtStop
  split <;> simp [ok]

@[simp] theorem stopCarriage_ok (e : Env) (t due : Nat) (pass : Bool) {h : Hall} (ok : BooksOk h.books) :
    BooksOk (stopCarriage e t due pass h).books := by
  unfold stopCarriage
  split
  · exact ok
  · split
    · split <;> simp [ok]
    all_goals simp [ok]

@[simp] theorem takeStop_ok (e : Env) (c : Cue) {h : Hall} (ok : BooksOk h.books) : BooksOk (takeStop e c h).books := by
  unfold takeStop stopWaiting
  dsimp only
  repeat' split
  all_goals simp [ok]

@[simp] theorem takeCarryStart_ok (e : Env) (c : Cue) {h : Hall} (ok : BooksOk h.books) :
    BooksOk (takeCarryStart e c h).books := by
  unfold takeCarryStart
  split <;> simp [ok]

@[simp] theorem takeCue_ok (e : Env) (c : Cue) {h : Hall} (ok : BooksOk h.books) : BooksOk (takeCue e c h).books := by
  unfold takeCue
  repeat' split
  all_goals simp [ok]

@[simp] theorem startCleanRun_books (e : Env) (t : Nat) (h : Hall) : (startCleanRun e t h).books = h.books := by
  unfold startCleanRun
  split <;> simp

@[simp] theorem enterOnAir_ok (e : Env) (t : Nat) (c : Carriage) {h : Hall} (ok : BooksOk h.books) :
    BooksOk (enterOnAir e t c h).books := by
  simp only [enterOnAir, apply_ite Hall.books, post_books, ite_self]
  exact writeOutcome_ok _ _ ok

@[simp] theorem onWorkDone_books (e : Env) (t : Nat) (fits : Carriage → Bool) (mark : Carriage → Carriage) (h : Hall) :
    (onWorkDone e t fits mark h).books = h.books := by
  unfold onWorkDone
  repeat' split
  all_goals simp

@[simp] theorem onWorkFailed_ok (e : Env) (t a : Nat) (row : Bool) {h : Hall} (ok : BooksOk h.books) :
    BooksOk (onWorkFailed e t a row h).books := by
  unfold onWorkFailed
  repeat' split
  all_goals simp [ok]

@[simp] theorem onRfOff_ok (e : Env) (t : Nat) {h : Hall} (ok : BooksOk h.books) : BooksOk (onRfOff e t h).books := by
  unfold onRfOff
  repeat' split
  all_goals simp [ok]

@[simp] theorem onRfUp_ok (e : Env) (t : Nat) {h : Hall} (ok : BooksOk h.books) : BooksOk (onRfUp e t h).books := by
  unfold onRfUp
  repeat' split
  all_goals simp [ok]

@[simp] theorem onInterlock_ok (e : Env) (t : Nat) (r : Requester) {h : Hall} (ok : BooksOk h.books) :
    BooksOk (onInterlock e t r h).books := by
  unfold onInterlock
  split
  · exact ok
  · split
    · split
      · rw [askRouteAndSetting_books]; exact ok
      · exact ok
    · split <;> simp [ok]

@[simp] theorem onHeld_ok (e : Env) (t : Nat) {h : Hall} (ok : BooksOk h.books) : BooksOk (onHeld e t h).books := by
  unfold onHeld
  repeat' split
  all_goals simp [ok]

@[simp] theorem takeReport_ok (e : Env) (r : Report) {h : Hall} (ok : BooksOk h.books) :
    BooksOk (takeReport e r h).books := by
  unfold takeReport
  split
  case h_9 | h_10 | h_11 | h_12 => repeat' split
                                   all_goals simp [ok]
  all_goals simp [ok]

/-! ## The reflection monitor -/

@[simp] theorem pastRetryLimit_books (e : Env) (t : Nat) (h : Hall) : (pastRetryLimit e t h).books = h.books := by
  unfold pastRetryLimit
  dsimp only
  repeat' split
  all_goals simp

@[simp] theorem trip_books (e : Env) (t : Nat) (h : Hall) : (trip e t h).books = h.books := by
  unfold trip
  dsimp only
  split <;> simp

@[simp] theorem warn_books (e : Env) (t r : Nat) (h : Hall) : (warn e t r h).books = h.books := by
  unfold warn
  generalize (if threshold e.config.hall.warnVswr < r then _ else _ : Nat) = run
  dsimp only
  split
  · simp
  · split <;> simp

@[simp] theorem convert_books (e : Env) (t vf vr : Nat) (h : Hall) : (convert e t vf vr h).books = h.books := by
  unfold convert evaluate
  dsimp only
  repeat' split
  all_goals simp

@[simp] theorem recycleExpired_books (e : Env) (t : Nat) (h : Hall) : (recycleExpired e t h).books = h.books := by
  unfold recycleExpired
  split <;> simp

@[simp] theorem cleanRunExpired_books (t : Nat) (h : Hall) : (cleanRunExpired t h).books = h.books := by
  unfold cleanRunExpired
  split <;> simp

/-! ## What follows inside a command, and a clock advance -/

theorem takeNext_ok (e : Env) {h : Hall} (ok : BooksOk h.books) : BooksOk (takeNext e h).1.books := by
  unfold takeNext
  split
  · exact takeReport_ok e _ ok
  · split
    · next cue h' eq =>
      have left : BooksOk h'.books := by rw [takeDue_books eq]; exact ok
      simp [left]
    · exact ok

theorem settleRound_ok (e : Env) {h : Hall} (ok : BooksOk h.books) : BooksOk (settleRound e h).1.books :=
  takeNext_ok e (by simpa using ok)

@[simp] theorem settle_ok (e : Env) {h : Hall} (ok : BooksOk h.books) : BooksOk (settle e h).books := by
  unfold settle
  rw [enforceRf_books]
  exact settleRounds_keeps (fun h => BooksOk h.books) e (fun _ ok => settleRound_ok e ok) Config.settleLimit h ok

@[simp] theorem takeIndications_ok (e : Env) (t : Nat) (old : Indications) {h : Hall} (ok : BooksOk h.books) :
    BooksOk (takeIndications e t old h).books := by
  simp [takeIndications, ok]

@[simp] theorem retryKeying_books (e : Env) (t : Nat) (h : Hall) : (retryKeying e t h).books = h.books := by
  unfold retryKeying
  split <;> simp

@[simp] theorem conclude_ok (e : Env) (l : List Nat) {h : Hall} (ok : BooksOk h.books) :
    BooksOk (conclude e l h).books := by
  unfold conclude
  dsimp only
  split
  · simp [ok]
  · exact settle_ok e (by rw [forEach_books _ _ (retryKeying_books e)]; exact settle_ok e ok)

@[simp] theorem laterDay_ok (e : Env) {h : Hall} (ok : BooksOk h.books) : BooksOk (laterDay e h).books := by
  simp [laterDay, ok]

theorem dayTests_ok (e : Env) (d : Nat) (again : Hall → Hall) (same : ∀ h, (again h).books = h.books) {h : Hall}
    (ok : BooksOk h.books) : BooksOk (dayTests e d again h).books := by
  unfold dayTests
  dsimp only
  repeat' split
  all_goals simp [ok, same]

@[simp] theorem stepScan_books (e : Env) (old : Clock) (h : Hall) : (stepScan e old h).books = h.books := by
  unfold stepScan
  split <;> simp

@[simp] theorem handOn_ok (e : Env) (old : Clock) (how : Handing) {h : Hall} (ok : BooksOk h.books) :
    BooksOk (handOn e old how h).books := by
  cases how with
  | nothing => exact ok
  | ordinary =>
    refine dayTests_ok e _ _ (rescan_books e) ?_
    split <;> simp [ok]
  | first => simp [handOn, ok]
  | step m => exact dayTests_ok e _ _ (stepScan_books e old) (by simp [ok])

end Sys2Proof.Machine
end

section
/-! What the commands and events make of the table and the calendar, and the invariant of their form (O58). -/

namespace Sys2Proof.Machine

/-! ## Additions -/

/-- An item put in its place by a key that no other item has leaves the keys ascending. -/
theorem insertBy_ascending (key : α → Nat) (x : α) (l : List α) (sorted : (l.map key).Pairwise (· < ·))
    (fresh : ∀ y ∈ l, key y ≠ key x) :
    ((insertBy (fun a b => decide (key a < key b)) x l).map key).Pairwise (· < ·) := by
  induction l with
  | nil => simp [insertBy]
  | cons y rest ih =>
    rw [List.map_cons, List.pairwise_cons] at sorted
    obtain ⟨least, tail⟩ := sorted
    have other : key y ≠ key x := fresh y List.mem_cons_self
    unfold insertBy
    split
    · next before =>
      rw [List.map_cons, List.pairwise_cons]
      refine ⟨fun k mem => ?_, ih tail fun z mem => fresh z (List.mem_cons_of_mem _ mem)⟩
      have among := ((insertBy_perm _ x rest).map key).subset mem
      rw [List.map_cons, List.mem_cons] at among
      rcases among with rfl | old
      · simpa using before
      · exact least k old
    · next notBefore =>
      have less : key x < key y := by
        have := of_decide_eq_false (Bool.eq_false_iff.mpr notBefore)
        omega
      rw [List.map_cons, List.pairwise_cons]
      refine ⟨fun k mem => ?_, List.pairwise_cons.mpr ⟨least, tail⟩⟩
      rw [List.map_cons, List.mem_cons] at mem
      rcases mem with rfl | old
      · exact less
      · exact less.trans (least k old)

/-- A number that names no record is no record's number. -/
theorem booking_eq_none {h : Hall} {n : Nat} : h.booking n = none ↔ ∀ r ∈ h.table.records, r.fields.number ≠ n := by
  simp [Hall.booking]

/-- A record offered anew that passes the checks has a number of its own and finds room (R6). -/
theorem entryCheck_passed {e : Env} {h : Hall} {b : Offered} (pass : entryCheck e h false b = none) :
    h.booking b.number = none ∧ h.table.records.length < Config.tableCapacity := by
  unfold entryCheck at pass
  repeat' split at pass
  all_goals simp_all

theorem addBooking_ok (e : Env) (b : Offered) {h : Hall} (ok : BooksOk h.books) (fresh : h.booking b.number = none)
    (space : h.table.records.length < Config.tableCapacity) : BooksOk (addBooking e b h).books := by
  obtain ⟨numbers, _, days, ids, places⟩ := ok
  refine nearlyFullTest_ok e ?_
  rw [refresh_books]
  refine ⟨insertBy_ascending _ _ _ numbers (booking_eq_none.mp fresh), ?_, days, ids, places⟩
  refine (insertBy_perm _ _ _).length_eq.trans_le ?_
  rw [List.length_cons]
  exact space

theorem loadOne_ok (e : Env) (b : Offered) {h : Hall} (ok : BooksOk h.books) : BooksOk (loadOne e b h).books := by
  unfold loadOne
  split
  · next pass =>
    obtain ⟨fresh, space⟩ := entryCheck_passed (Option.isNone_iff_eq_none.mp pass)
    exact addBooking_ok e b ok fresh space
  · exact ok

theorem loadRecords_ok (e : Env) (l : List Offered) {h : Hall} (ok : BooksOk h.books) :
    BooksOk (loadRecords e l h).1.books := by
  induction l generalizing h with
  | nil => exact ok
  | cons b rest ih => exact ih (loadOne_ok e b ok)

theorem changeCalendar_ok (e : Env) (entries : List SeasonEntry) (h : Hall)
    (ok : BooksOk (h.table, { h.calendar with entries := entries })) : BooksOk (changeCalendar e entries h).books := by
  unfold changeCalendar
  rw [rescan_books]
  exact ok

/-- An entry that CALENDAR ADD takes has an id and a first day of its own and finds room (R38). -/
theorem calendarAdd_passed {e : Env} {h : Hall} {s : SeasonEntry} (pass : calendarAddRefusal e h s = none) :
    (∀ x ∈ h.calendar.entries, x.firstDay ≠ s.firstDay) ∧ (∀ x ∈ h.calendar.entries, x.id ≠ s.id) ∧
    h.calendar.entries.length < Config.calendarCapacity := by
  unfold calendarAddRefusal at pass
  repeat' split at pass
  all_goals simp_all

theorem calendarAdd_ok {h : Hall} (s : SeasonEntry) (ok : BooksOk h.books)
    (day : ∀ x ∈ h.calendar.entries, x.firstDay ≠ s.firstDay) (own : ∀ x ∈ h.calendar.entries, x.id ≠ s.id)
    (space : h.calendar.entries.length < Config.calendarCapacity) :
    BooksOk (h.table, { h.calendar with
      entries := insertBy (fun x y => x.firstDay < y.firstDay) s h.calendar.entries }) := by
  obtain ⟨numbers, room, days, ids, _⟩ := ok
  have perm := insertBy_perm (fun x y : SeasonEntry => decide (x.firstDay < y.firstDay)) s h.calendar.entries
  refine ⟨numbers, room, insertBy_ascending _ _ _ days day, ?_, ?_⟩
  · refine (perm.map (·.id)).nodup_iff.mpr ?_
    rw [List.map_cons, List.nodup_cons]
    exact ⟨by simpa using own, ids⟩
  · refine perm.length_eq.trans_le ?_
    rw [List.length_cons]
    exact space

/-! ## The commands' changes of the hall -/

@[simp] theorem amendPreparing_ok (e : Env) (t : Nat) (c : Carriage) (b : Offered) {h : Hall} (ok : BooksOk h.books) :
    BooksOk (amendPreparing e t c b h).books := by
  have left := abandon_ok e t (replaceBooking_ok e b ok)
  unfold amendPreparing
  dsimp only
  split <;> simp [left]

theorem amendOnAir_books (e : Env) (t : Nat) (c : Carriage) (old b : Offered) (h : Hall) :
    (amendOnAir e t c old b h).books = (replaceBooking e b h).books := by
  unfold amendOnAir
  dsimp only
  repeat' split
  all_goals simp

@[simp] theorem withdrawNow_ok (e : Env) (t n : Nat) (c : Carriage) {h : Hall} (ok : BooksOk h.books) :
    BooksOk (withdrawNow e t n c h).books := by
  have stopped := stopCarriage_ok e t c.stop false (dropParked_ok e t ok)
  simp [withdrawNow, stopped]

@[simp] theorem withdrawLater_ok (e : Env) (t n : Nat) (old : Booking) {h : Hall} (ok : BooksOk h.books) :
    BooksOk (withdrawLater e t n old h).books := by
  unfold withdrawLater
  rw [refresh_books]
  exact mapBooking_ok _ _ (fun _ is => is) (dropParked_ok e t ok)

@[simp] theorem resumeScan_books (e : Env) (h : Hall) : (resumeScan e h).books = h.books := by
  refine foldl_books _ _ (fun h r => ?_) h
  unfold resumeOne
  dsimp only
  repeat' split
  all_goals simp

@[simp] theorem startRunning_books (e : Env) (h : Hall) : (startRunning e h).books = h.books := by simp [startRunning]

@[simp] theorem startOrDiscardTx_books (old new : Env) (t : Nat) (h : Hall) :
    (startOrDiscardTx old new t h).books = h.books := by
  unfold startOrDiscardTx freshTx
  dsimp only
  repeat' split
  all_goals simp

@[simp] theorem cutShort_books (e : Env) (t : Nat) (c : Carriage) (h : Hall) : (cutShort e t c h).books = h.books := by
  simp [cutShort]

@[simp] theorem carryOn_books (e : Env) (t : Nat) (c : Carriage) (b : Offered) (h : Hall) :
    (carryOn e t c b h).books = h.books := by
  unfold carryOn
  dsimp only
  repeat' split
  all_goals simp

@[simp] theorem takeAmendment_ok (e : Env) (t : Nat) {h : Hall} (ok : BooksOk h.books) :
    BooksOk (takeAmendment e t h).books := by
  have applied := applyParked_ok e t ok
  unfold takeAmendment
  dsimp only
  repeat' split
  all_goals simp [applied]

@[simp] theorem stopOne_ok (e : Env) (t : Nat) {h : Hall} (ok : BooksOk h.books) : BooksOk (stopOne e t h).books := by
  unfold stopOne
  dsimp only
  repeat' split
  all_goals simp [ok]

@[simp] theorem stopRf_books (e : Env) (t : Nat) (h : Hall) : (stopRf e t h).books = h.books := by
  unfold stopRf
  split <;> simp

@[simp] theorem stopHall_ok (e : Env) {h : Hall} (ok : BooksOk h.books) : BooksOk (stopHall e h).books := by
  unfold stopHall
  rw [post_books, forEach_books _ _ (stopRf_books e), enforceRf_books]
  exact forEach_ok _ _ (fun t _ => stopOne_ok e t) ok

@[simp] theorem holdRequest_books (i : Instr) (h : Hall) : (holdRequest i h).books = h.books := Prod.ext rfl rfl

@[simp] theorem lockLive_ok (e : Env) (t a : Nat) {h : Hall} (ok : BooksOk h.books) :
    BooksOk (lockLive e t a h).books := by
  unfold lockLive
  dsimp only
  repeat' split
  all_goals simp [ok]

@[simp] theorem lockEarly_ok (e : Env) (t a : Nat) {h : Hall} (ok : BooksOk h.books) :
    BooksOk (lockEarly e t a h).books := by
  simp [lockEarly, ok]

@[simp] theorem lockRest_books (a : Nat) (h : Hall) : (lockRest a h).books = h.books := by
  unfold lockRest
  dsimp only
  split <;> simp

@[simp] theorem lockColumn_ok (e : Env) (a : Nat) {h : Hall} (ok : BooksOk h.books) :
    BooksOk (lockColumn e a h).books := by
  unfold lockColumn
  repeat' split
  all_goals simp [ok]

@[simp] theorem clearClosed_books (r c : Nat) (h : Hall) : (clearClosed r c h).books = h.books := by
  unfold clearClosed
  dsimp only
  split <;> simp

@[simp] theorem takeLocalChange_ok (e : Env) (t : Nat) {h : Hall} (ok : BooksOk h.books) :
    BooksOk (takeLocalChange e t h).books := by
  unfold takeLocalChange
  dsimp only
  repeat' split
  all_goals simp [ok]

@[simp] theorem adopt_ok (e : Env) (t : Nat) (a : Adoption) {h : Hall} (ok : BooksOk h.books) :
    BooksOk (adopt e t a h).books := by
  unfold adopt
  dsimp only
  rw [refresh_books, carriageOpened_books]
  simp only [apply_ite Hall.books, setPower_books, ite_self, mapLookahead_books, post_books]
  exact writeOutcome_ok _ _ (setLastRun_ok _ _ (by simpa using ok))

@[simp] theorem giveRemoteChange_ok (e : Env) (t : Nat) {h : Hall} (ok : BooksOk h.books) :
    BooksOk (giveRemoteChange e t h).books := by
  unfold giveRemoteChange giveUp
  dsimp only
  repeat' split
  all_goals simp [ok]

@[simp] theorem clearHeldChange_books (e : Env) (t : Nat) (h : Hall) : (clearHeldChange e t h).books = h.books := by
  simp [clearHeldChange]

/-! ## What a block makes of a command -/

/-- A command's change of the hall, if any, keeps the form of the table and the calendar it was judged with. -/
def KeepsForm (h : Hall) (change : Option (Hall → Hall)) : Prop :=
  ∀ f, change = some f → ∀ h', h'.books = h.books → BooksOk h'.books → BooksOk (f h').books

theorem keepsForm_none (h : Hall) : KeepsForm h none := fun _ no => nomatch no

theorem keepsForm_some (h : Hall) {f : Hall → Hall} (keeps : ∀ h', BooksOk h'.books → BooksOk (f h').books) :
    KeepsForm h (some f) := by
  rintro _ ⟨⟩ h' _ ok
  exact keeps h' ok

theorem keepsForm_same (h : Hall) {f : Hall → Hall} (same : ∀ h', (f h').books = h'.books) : KeepsForm h (some f) :=
  keepsForm_some h fun h' ok => by rw [same]; exact ok

theorem keepsForm_unchanged (h : Hall) (r : ResultCode) : KeepsForm h (Effect.unchanged r).change := keepsForm_none h

theorem keepsForm_checked {h : Hall} {result : Option (ResultCode × Option (Nat × Bool))} {follows : Effect}
    (passed : result = none → KeepsForm h follows.change) : KeepsForm h (Effect.checked result follows).change := by
  cases result with
  | some r => exact keepsForm_none h
  | none => exact passed rfl

theorem booking_of_books {h h' : Hall} (same : h'.books = h.books) (n : Nat) : h'.booking n = h.booking n := by
  unfold Hall.booking
  rw [table_of_books same]

theorem enterRun_keeps (b : Offered) (e : Env) (h : Hall) : KeepsForm h (enterRun b e h).change := by
  refine keepsForm_checked fun pass => ?_
  obtain ⟨fresh, space⟩ := entryCheck_passed pass
  rintro _ ⟨⟩ h' same ok
  exact addBooking_ok e b ok (by rw [booking_of_books same, fresh]) (by rw [table_of_books same]; exact space)

theorem loadRun_keeps (l : List Offered) (e : Env) (h : Hall) : KeepsForm h (loadRun l e h).change := by
  unfold loadRun
  split
  · exact keepsForm_none h
  · exact keepsForm_some h fun _ => loadRecords_ok e l

theorem amendServed_keeps (e : Env) (t : Nat) (c : Carriage) (old : Booking) (b : Offered) (h : Hall) :
    KeepsForm h (amendServed e t c old b h).change := by
  unfold amendServed
  repeat' split
  · exact keepsForm_none h
  · exact keepsForm_some h fun _ => amendPreparing_ok e t c b
  · exact keepsForm_none h
  · exact keepsForm_same h fun h' => by simp
  · exact keepsForm_some h fun h' ok => by rw [amendOnAir_books]; exact replaceBooking_ok e b ok

theorem amendRun_keeps (b : Offered) (e : Env) (h : Hall) : KeepsForm h (amendRun b e h).change := by
  refine keepsForm_checked fun _ => ?_
  unfold amendChecked
  repeat' split
  · exact keepsForm_none h
  · exact keepsForm_some h fun _ => replaceBooking_ok e b
  · exact amendServed_keeps e _ _ _ b h

theorem withdrawRun_keeps (w : WithdrawArgs) (e : Env) (h : Hall) : KeepsForm h (withdrawRun w e h).change := by
  unfold withdrawRun
  repeat' split
  · exact keepsForm_none h
  · exact keepsForm_some h fun _ => removeBooking_ok e _
  · exact keepsForm_some h fun _ ok => removeBooking_ok e _ (abandon_ok e _ ok)
  · exact keepsForm_some h fun _ => withdrawNow_ok e _ _ _
  · exact keepsForm_none h
  · exact keepsForm_some h fun _ => withdrawLater_ok e _ _ _

theorem calendarAddRun_keeps (s : SeasonEntry) (e : Env) (h : Hall) : KeepsForm h (calendarAddRun s e h).change := by
  unfold calendarAddRun
  split
  · exact keepsForm_none h
  · next pass =>
    obtain ⟨day, own, space⟩ := calendarAdd_passed pass
    rintro _ ⟨⟩ h' same ok
    rw [← calendar_of_books same] at day own space
    exact changeCalendar_ok e _ h' (calendarAdd_ok s ok day own space)

theorem calendarRemoveRun_keeps (n : Nat) (e : Env) (h : Hall) : KeepsForm h (calendarRemoveRun n e h).change := by
  unfold calendarRemoveRun
  split
  · exact keepsForm_none h
  · exact keepsForm_some h fun h' ok =>
      changeCalendar_ok e _ h' (ok.of_sublist (List.Sublist.refl _) List.filter_sublist)

theorem takeAmendmentRun_keeps (t : Nat) (e : Env) (h : Hall) : KeepsForm h (takeAmendmentRun t e h).change := by
  unfold takeAmendmentRun
  repeat' split
  · exact keepsForm_none h
  · exact keepsForm_none h
  · exact keepsForm_some h fun _ => takeAmendment_ok e t

theorem dropAmendmentRun_keeps (t : Nat) (e : Env) (h : Hall) : KeepsForm h (dropAmendmentRun t e h).change := by
  unfold dropAmendmentRun
  repeat' split
  · exact keepsForm_none h
  · exact keepsForm_none h
  · exact keepsForm_some h fun _ => dropParked_ok e t

theorem matrixRequest_keeps (i : Instr) {run : α → Env → Hall → Effect}
    (keeps : ∀ a e h, KeepsForm h (run a e h).change) (a : α) (e : Env) (h : Hall) :
    KeepsForm h (matrixRequest i run a e h).change := by
  unfold matrixRequest
  split
  · exact keepsForm_same h (holdRequest_books i)
  · exact keeps a e h

theorem lockRun_keeps (a : Nat) (e : Env) (h : Hall) : KeepsForm h (lockRun a e h).change := by
  unfold lockRun
  repeat' split
  · exact keepsForm_none h
  · exact keepsForm_none h
  · exact keepsForm_none h
  · exact keepsForm_some h fun _ => lockColumn_ok e a

theorem freeRun_keeps (a : Nat) (e : Env) (h : Hall) : KeepsForm h (freeRun a e h).change := by
  unfold freeRun
  repeat' split
  · exact keepsForm_none h
  · exact keepsForm_none h
  · exact keepsForm_none h
  · exact keepsForm_none h
  · exact keepsForm_same h fun h' => by simp

theorem clearSuspectRun_keeps (a : Nat) (e : Env) (h : Hall) : KeepsForm h (clearSuspectRun a e h).change := by
  unfold clearSuspectRun
  repeat' split
  · exact keepsForm_none h
  · exact keepsForm_none h
  · exact keepsForm_same h fun h' => by simp

theorem clearStuckRun_keeps (x : RowCol) (e : Env) (h : Hall) : KeepsForm h (clearStuckRun x e h).change := by
  unfold clearStuckRun
  repeat' split
  · exact keepsForm_none h
  · exact keepsForm_none h
  · exact keepsForm_none h
  · exact keepsForm_same h fun h' => by simp
  · exact keepsForm_same h fun h' => by simp
  · exact keepsForm_none h

theorem takeLocalRun_keeps (t : Nat) (e : Env) (h : Hall) : KeepsForm h (takeLocalRun t e h).change := by
  unfold takeLocalRun
  repeat' split
  · exact keepsForm_none h
  · exact keepsForm_none h
  · exact keepsForm_none h
  · exact keepsForm_some h fun _ => takeLocalChange_ok e t

theorem giveRemoteRun_keeps (t : Nat) (e : Env) (h : Hall) : KeepsForm h (giveRemoteRun t e h).change := by
  unfold giveRemoteRun
  repeat' split
  · exact keepsForm_none h
  · exact keepsForm_none h
  · exact keepsForm_none h
  · exact keepsForm_some h fun _ => giveRemoteChange_ok e t

theorem localRouteRun_keeps (r : LocalRouteArgs) (e : Env) (h : Hall) : KeepsForm h (localRouteRun r e h).change := by
  unfold localRouteRun
  repeat' split
  · exact keepsForm_none h
  · exact keepsForm_none h
  · exact keepsForm_none h
  · exact keepsForm_same h (askLocalRoute_books _ _)

theorem localTuneRun_keeps (r : LocalArgs) (e : Env) (h : Hall) : KeepsForm h (localTuneRun r e h).change := by
  unfold localTuneRun
  repeat' split
  · exact keepsForm_none h
  · exact keepsForm_none h
  · exact keepsForm_none h
  · exact keepsForm_same h (takeTune_books e _ _ _)

theorem localRfOnRun_keeps (r : LocalArgs) (e : Env) (h : Hall) : KeepsForm h (localRfOnRun r e h).change := by
  unfold localRfOnRun
  repeat' split
  · exact keepsForm_none h
  · exact keepsForm_none h
  · exact keepsForm_none h
  · exact keepsForm_none h
  · exact keepsForm_same h (rfOn_books e _ _ _)

theorem localRfOffRun_keeps (t : Nat) (e : Env) (h : Hall) : KeepsForm h (localRfOffRun t e h).change := by
  unfold localRfOffRun
  repeat' split
  · exact keepsForm_none h
  · exact keepsForm_none h
  · exact keepsForm_same h (rfOff_books e t)

theorem clearHeldRun_keeps (t : Nat) (e : Env) (h : Hall) : KeepsForm h (clearHeldRun t e h).change := by
  unfold clearHeldRun
  repeat' split
  · exact keepsForm_none h
  · exact keepsForm_none h
  · exact keepsForm_none h
  · exact keepsForm_none h
  · exact keepsForm_same h (clearHeldChange_books e t)

theorem setClockRun_keeps (v : ClockValue) (e : Env) (h : Hall) : KeepsForm h (setClockRun v e h).change := by
  unfold setClockRun
  split
  · exact keepsForm_none h
  · exact keepsForm_none h

theorem configureHallRun_keeps (r : HallRecord) (e : Env) (h : Hall) : KeepsForm h (configureHallRun r e h).change := by
  unfold configureHallRun
  cases configureHallRefusal e h r with
  | some code => exact keepsForm_none h
  | none =>
    simp only [Option.elim, takeHall]
    split
    · exact keepsForm_none h
    · exact keepsForm_some h fun _ => nearlyFullTest_ok _

theorem commissionRun_keeps (u : Unit) (e : Env) (h : Hall) : KeepsForm h (commissionRun u e h).change := by
  unfold commissionRun
  split
  · exact keepsForm_none h
  · exact keepsForm_same h fun h' => by simp

theorem reconfigureRun_keeps (u : Unit) (e : Env) (h : Hall) : KeepsForm h (reconfigureRun u e h).change := by
  unfold reconfigureRun
  repeat' split
  · exact keepsForm_none h
  · exact keepsForm_none h
  · exact keepsForm_none h
  · exact keepsForm_same h fun h' => rfl

theorem configureTransmitterRun_keeps (w : TxWrite) (e : Env) (h : Hall) :
    KeepsForm h (configureTransmitterRun w e h).change := by
  unfold configureTransmitterRun
  repeat' split
  · exact keepsForm_none h
  · exact keepsForm_none h
  · exact keepsForm_none h
  · exact keepsForm_same h (startOrDiscardTx_books e _ _)

theorem configureAntennaRun_keeps (w : AntWrite) (e : Env) (h : Hall) :
    KeepsForm h (configureAntennaRun w e h).change := by
  unfold configureAntennaRun
  repeat' split
  · exact keepsForm_none h
  · exact keepsForm_none h
  · exact keepsForm_none h
  · exact keepsForm_same h fun h' => rfl

theorem hallStopRun_keeps (u : Unit) (e : Env) (h : Hall) : KeepsForm h (hallStopRun u e h).change := by
  unfold hallStopRun
  split
  · exact keepsForm_none h
  · exact keepsForm_none h
  · exact keepsForm_some h fun _ => stopHall_ok _

theorem hallResumeRun_keeps (u : Unit) (e : Env) (h : Hall) : KeepsForm h (hallResumeRun u e h).change := by
  unfold hallResumeRun
  split
  · exact keepsForm_none h
  · exact keepsForm_none h
  · exact keepsForm_same h (startRunning_books _)

theorem takeHeld_keeps (i : Instr) (e : Env) (h : Hall) : KeepsForm h (takeHeld i e h).change := by
  unfold takeHeld
  split
  · exact lockRun_keeps _ e h
  · exact freeRun_keeps _ e h
  · exact clearSuspectRun_keeps _ e h
  · exact clearStuckRun_keeps _ e h
  · exact giveRemoteRun_keeps _ e h
  · exact localRouteRun_keeps _ e h
  · exact localRfOnRun_keeps _ e h
  · exact keepsForm_none h

/-! ## The end of the survey, and start-ups -/

theorem takeAllHeld_ok (e : Env) (l : List Instr) {h : Hall} (a : Option Answer) (ok : BooksOk h.books) :
    BooksOk (takeAllHeld e l h a).1.books := by
  induction l generalizing h a with
  | nil => exact ok
  | cons i rest ih =>
    refine ih _ ?_
    split
    · next f eq => exact takeHeld_keeps i e h f eq h rfl ok
    · exact ok

@[simp] theorem surveyReport_books (e : Env) (r c : Nat) (x : Reading) (h : Hall) :
    (surveyReport e r c x h).books = h.books := by
  unfold surveyReport
  dsimp only
  split <;> simp

@[simp] theorem reconstruct_books (e : Env) (h : Hall) : (reconstruct e h).books = h.books := by
  have retake : ∀ a h, (retakeLock e a h).books = h.books := fun a h => by
    unfold retakeLock
    repeat' split
    all_goals simp
  unfold reconstruct
  dsimp only
  rw [forEach_books _ _ retake, foldl_books _ _ fun h x => askSafetyOpen_books _ _ _ h]

@[simp] theorem restartScan_ok (e : Env) {h : Hall} (ok : BooksOk h.books) : BooksOk (restartScan e h).books := by
  refine foldl_ok _ _ (fun h b ok => ?_) ok
  unfold restartOne
  dsimp only
  repeat' split
  all_goals simp [ok]

theorem endSurvey_ok (e : Env) (s : Survey) {h : Hall} (ok : BooksOk h.books) : BooksOk (endSurvey e s h).1.books := by
  have rebuilt : BooksOk (reconstruct e ((s.unreported.foldl (fun h x => setStuck e x.row x.col h) h).mapMatrix
      fun m => { m with survey := none })).books := by
    rw [reconstruct_books, mapMatrix_books, foldl_books _ _ fun h x => setStuck_books e _ _ h]
    exact ok
  have held := takeAllHeld_ok e s.held none rebuilt
  unfold endSurvey
  dsimp only
  repeat' split
  all_goals simp [held]

@[simp] theorem restartTxs_books (e : Env) (h : Hall) : (restartTxs e h).books = h.books := by
  unfold restartTxs
  rw [forEach_books _ _ (rfOff_books e), forEach_books _ _ fun t => sendTx_books e t _]

theorem restartTable_ok (e : Env) {h : Hall} (ok : BooksOk h.books) : BooksOk (restartTable e h).books := by
  have removed := removeBookings_ok e (h.table.records.filter (·.state == .withdrawing)) ok
  unfold restartTable
  dsimp only
  split
  · exact removed
  · split
    · exact calendarTest_ok e removed
    · exact calendarTest_ok e (removeBookings_ok e _ removed)

theorem warm_ok (e : Env) {h : Hall} (ok : BooksOk h.books) : BooksOk (Hall.warm e h).books := by
  unfold Hall.warm
  refine restartTable_ok e (findLive_ok e ?_)
  rw [send_books, restartTxs_books]
  exact ok

theorem cold_ok (t : Nat) : BooksOk (Hall.cold t).books := by
  simp [BooksOk, Hall.books, Hall.cold]

theorem startUp_ok (i : StartInputs) {s : State} (ok : BooksOk s.hall.books) : BooksOk (startUp i s).hall.books := by
  unfold startUp
  split
  · exact warm_ok _ ok
  · exact cold_ok _

theorem withdrawAll_books (h : Hall) : (withdrawAll h).books = h.books :=
  forEach_books _ _ (fun t h => setTx_books h t _) h

/-! ## How a command reaches the blocks -/

section Commands

variable {α : Type} {s : State} (ok : BooksOk s.hall.books)

include ok

theorem act_ok {f : Hall → Hall} (keeps : ∀ h, h.books = s.hall.books → BooksOk h.books → BooksOk (f h).books) :
    BooksOk (s.act f).hall.books := conclude_ok _ _ (keeps _ rfl ok)

theorem changing_ok {run : α → Env → Hall → Effect} (keeps : ∀ a e h, KeepsForm h (run a e h).change) (a : α) :
    BooksOk (changing run a s).1.hall.books := by
  rcases changing_cases run a s with eq | ⟨f, eq, acts⟩
  · rw [eq]; exact ok
  · rw [acts]; exact act_ok ok (keeps a s.env s.hall f eq)

theorem governing_ok {run : α → Env → Hall → Verdict} (keeps : ∀ a e h, KeepsForm h (run a e h).change) (a : α) :
    BooksOk (governing run a s).1.hall.books := by
  unfold governing
  dsimp only
  split
  · exact ok
  · next f eq => exact act_ok (s := { s with env := (run a s.env s.hall).env }) ok (keeps a s.env s.hall f eq)

theorem frameOr_ok {bad : State → Answer} {link : Link} {code : Nat} {tag : Byte} {body : Body α}
    {run : α → State → State × Option Answer} (keeps : ∀ a, BooksOk (run a s).1.hall.books) :
    BooksOk (frameOr bad link code tag body run s).hall.books := by
  unfold frameOr
  split
  · split
    · exact ok
    · exact keeps _
  · rw [setReceiver_hall]; exact ok

theorem frame_ok {link : Link} {code : Nat} {tag : Byte} {body : Body α} {run : α → State → State × Option Answer}
    (keeps : ∀ a, BooksOk (run a s).1.hall.books) : BooksOk (frame link code tag body run s).hall.books :=
  frameOr_ok ok keeps

theorem event_ok {env : Env → Env} {run : Env → Hall → Hall}
    (keeps : ∀ e h, BooksOk h.books → BooksOk (run e h).books) : BooksOk (event env run s).hall.books := by
  unfold event
  split
  · exact act_ok (s := { s with env := env s.env }) ok fun h _ => keeps _ h
  · exact ok

theorem event_same {env : Env → Env} {run : Env → Hall → Hall} (same : ∀ e h, (run e h).books = h.books) :
    BooksOk (event env run s).hall.books := event_ok ok fun e h ok => by rw [same]; exact ok

theorem expiry_same {limit : Hall → Option Nat} {run : Env → Hall → Hall} (same : ∀ e h, (run e h).books = h.books) :
    BooksOk (expiry limit run s).hall.books := by
  unfold expiry
  split
  · exact ok
  · exact event_same ok same

theorem clockEvent_ok (moved : Clock × Handing) (t : Nat) {before : Env → Hall → Hall}
    (same : ∀ e h, (before e h).books = h.books) : BooksOk (clockEvent moved t before s).hall.books :=
  event_ok ok fun e h ok => handOn_ok e _ _ (by rw [same]; exact ok)

theorem surveyOver_ok (e : Env) (sv : Survey) {change : Hall → Hall} (same : ∀ h, (change h).books = h.books) :
    BooksOk (surveyOver e sv change s).hall.books := by
  have ended : BooksOk (event (fun _ => e) (fun e h => (endSurvey e sv (change h)).1) s).hall.books :=
    event_ok ok fun e h ok => endSurvey_ok e sv (by rw [same]; exact ok)
  unfold surveyOver State.deliver
  split
  · exact ended
  · exact ended

theorem contact_ok (r c : Nat) (x : Reading) : BooksOk (contact r c x s).hall.books := by
  unfold contact
  dsimp only
  split
  · exact event_same ok fun e h => takeContact_books e r c x h
  · split
    · split
      · exact surveyOver_ok ok _ _ (surveyReport_books _ r c x)
      · exact event_same ok fun e h => surveyReport_books e r c x h
    · exact event_same ok fun e h => takeContact_books e r c x h

/-- A command keeps the form of the table and the calendar. -/
theorem exec_ok {t : State} (i : Instr) (run : exec i s = .next t) : BooksOk t.hall.books := by
  have next {s' : State} (ok : BooksOk s'.hall.books) (eq : Host.Outcome.next s' = (.next t : Host.Outcome State Fault Refusal)) :
      BooksOk t.hall.books := by
    cases eq
    exact ok
  cases i with
  | enter tag body => exact next (frame_ok ok (changing_ok ok enterRun_keeps)) run
  | loadBlock tag body => exact next (frame_ok ok (changing_ok ok loadRun_keeps)) run
  | amend tag body => exact next (frame_ok ok (changing_ok ok amendRun_keeps)) run
  | withdraw tag body => exact next (frame_ok ok (changing_ok ok withdrawRun_keeps)) run
  | calendarAdd tag body => exact next (frame_ok ok (changing_ok ok calendarAddRun_keeps)) run
  | calendarRemove tag body => exact next (frame_ok ok (changing_ok ok calendarRemoveRun_keeps)) run
  | takeLocal tag body => exact next (frame_ok ok (changing_ok ok takeLocalRun_keeps)) run
  | localTune tag body => exact next (frame_ok ok (changing_ok ok localTuneRun_keeps)) run
  | localRfOff tag body => exact next (frame_ok ok (changing_ok ok localRfOffRun_keeps)) run
  | clearHeld tag body => exact next (frame_ok ok (changing_ok ok clearHeldRun_keeps)) run
  | takeAmendment tag body => exact next (frame_ok ok (changing_ok ok takeAmendmentRun_keeps)) run
  | dropAmendment tag body => exact next (frame_ok ok (changing_ok ok dropAmendmentRun_keeps)) run
  | lockAntenna tag body => exact next (frame_ok ok (changing_ok ok (matrixRequest_keeps _ lockRun_keeps))) run
  | freeAntenna tag body => exact next (frame_ok ok (changing_ok ok (matrixRequest_keeps _ freeRun_keeps))) run
  | clearSuspect tag body => exact next (frame_ok ok (changing_ok ok (matrixRequest_keeps _ clearSuspectRun_keeps))) run
  | clearStuck tag body => exact next (frame_ok ok (changing_ok ok (matrixRequest_keeps _ clearStuckRun_keeps))) run
  | giveRemote tag body => exact next (frame_ok ok (changing_ok ok (matrixRequest_keeps _ giveRemoteRun_keeps))) run
  | localRoute tag body => exact next (frame_ok ok (changing_ok ok (matrixRequest_keeps _ localRouteRun_keeps))) run
  | localRfOn tag body => exact next (frame_ok ok (changing_ok ok (matrixRequest_keeps _ localRfOnRun_keeps))) run
  | fetch link tag body => exact next (frame_ok ok fun _ => ok) run
  | list tag body => exact next (frame_ok ok fun _ => ok) run
  | calendarRead tag body => exact next (frame_ok ok fun _ => ok) run
  | readCues tag body => exact next (frame_ok ok fun _ => ok) run
  | readTransmitter link tag body => exact next (frame_ok ok fun _ => ok) run
  | readAntenna link tag body => exact next (frame_ok ok fun _ => ok) run
  | readRoutes link tag body => exact next (frame_ok ok fun _ => ok) run
  | poll link tag body => exact next (frame_ok ok fun _ => ok) run
  | ackAlarm tag body => exact next (frame_ok ok fun _ => ok) run
  | setAlarmMask tag body =>
    refine next (frame_ok ok fun m => ?_) run
    unfold setMaskRun
    split
    · exact ok
    · exact ok
  | setLinkRate link tag body =>
    refine next (frame_ok ok fun n => ?_) run
    unfold setRateRun
    split
    · exact ok
    · exact ok
  | setClock dest body =>
    cases dest with
    | addressed tag => exact next (frame_ok ok (governing_ok ok setClockRun_keeps)) run
    | broadcast =>
      refine next ?_ run
      unfold broadcastClock
      dsimp only
      repeat' split
      · rw [setReceiver_hall]; exact ok
      · show BooksOk (s.setReceiver .planning .waiting).hall.books
        rw [setReceiver_hall]; exact ok
      · rw [setReceiver_hall]; exact ok
  | configureHall tag body => exact next (frameOr_ok ok (governing_ok ok configureHallRun_keeps)) run
  | commission tag body => exact next (frame_ok ok (governing_ok ok commissionRun_keeps)) run
  | reconfigure tag body => exact next (frame_ok ok (governing_ok ok reconfigureRun_keeps)) run
  | configureTransmitter tag body => exact next (frame_ok ok (governing_ok ok configureTransmitterRun_keeps)) run
  | configureAntenna tag body => exact next (frame_ok ok (governing_ok ok configureAntennaRun_keeps)) run
  | hallStop tag body => exact next (frame_ok ok (governing_ok ok hallStopRun_keeps)) run
  | hallResume tag body => exact next (frame_ok ok (governing_ok ok hallResumeRun_keeps)) run
  | unknownCommand link code tag =>
    refine next ?_ run
    split
    · exact ok
    · rw [setReceiver_hall]; exact ok
  | characterGapTimeout link => exact next (by rw [setReceiver_hall]; exact ok) run
  | linkBreak link => exact next (by rw [setReceiver_hall]; exact ok) run
  | frameDiscard link cause => exact next (by rw [setReceiver_hall]; exact ok) run
  | responseSent link =>
    refine next ?_ run
    split
    · exact ok
    · exact ok
  | secondPulse time => exact next (clockEvent_ok ok _ _ fun _ _ => rfl) run
  | pulseWatchExpiry =>
    change execPulseWatchExpiry s = _ at run
    unfold execPulseWatchExpiry at run
    split at run
    · exact next ok run
    · exact next (clockEvent_ok ok _ _ fun _ h => post_books _ _ _ h) run
  | internalAdvance =>
    change execInternalAdvance s = _ at run
    unfold execInternalAdvance at run
    split at run
    · exact next ok run
    · exact next (clockEvent_ok ok _ _ fun _ _ => rfl) run
  | contactReport row col reading =>
    refine next ?_ run
    split
    · exact contact_ok ok row col reading
    · exact ok
  | surveyLimit =>
    change execSurveyLimit s = _ at run
    unfold execSurveyLimit at run
    split at run
    · exact next ok run
    · refine next ?_ run
      split
      · exact surveyOver_ok ok _ _ fun _ => rfl
      · exact ok
  | moveTimeout row col => exact next (expiry_same ok fun e h => moveExpired_books e row col h) run
  | settingCompletionReport a x => exact next (event_same ok fun e h => settingReported_books e a x h) run
  | settingTimeout a => exact next (expiry_same ok fun e h => settingExpired_books e a h) run
  | statusReport k x =>
    refine next (event_ok ok fun e h ok => ?_) run
    split
    · exact takeIndications_ok e k _ ok
    · exact ok
  | tuneComplete k f =>
    refine next (event_same ok fun e h => ?_) run
    split
    · exact tuneReported_books e k f h
    · rfl
  | tuneTimeout k => exact next (expiry_same ok fun e h => tuneExpired_books e k h) run
  | rfUpTimeout k => exact next (expiry_same ok fun e h => rfUpExpired_books e k h) run
  | rfDownTimeout k => exact next (expiry_same ok fun e h => rfDownExpired_books e k h) run
  | detectorConversion k vf vr => exact next (event_same ok fun e h => convert_books e k _ _ h) run
  | recycleTimerExpiry k => exact next (expiry_same ok fun e h => recycleExpired_books e k h) run
  | cleanRunExpiry k => exact next (expiry_same ok fun _ h => cleanRunExpired_books k h) run
  | powerUp inputs =>
    refine next ?_ run
    split
    · exact startUp_ok inputs ok
    · exact ok
  | restartAsserted =>
    refine next ?_ run
    split
    · rw [withdrawAll_books]; exact ok
    · exact ok
  | restartReleased inputs =>
    refine next ?_ run
    split
    · exact startUp_ok inputs ok
    · exact ok
  | restartHeld5s address =>
    refine next ?_ run
    split
    · exact cold_ok _
    · exact ok
  | mainSupplyLoss =>
    refine next ?_ run
    split
    · exact ok
    · rw [withdrawAll_books]; exact ok

end Commands

theorem idle_hall (s : State) : (idle s).hall = s.hall := by
  unfold idle
  dsimp only
  split <;> rfl

/-- Settles O58: the table and the calendar change by removals and changes in place, which keep their form, and by the
additions of ENTER, LOAD BLOCK and CALENDAR ADD, whose checks keep it. -/
theorem collectionsKeepTheirForm : Obligations.CollectionsKeepTheirForm := by
  unfold Obligations.CollectionsKeepTheirForm
  intro s t ok run
  rw [collectionsOk_iff] at ok ⊢
  unfold step at run
  split at run
  · cases run
    rw [idle_hall]
    exact ok
  · next i rest _ => exact exec_ok (s := { s with pending := rest }) ok i run

end Sys2Proof.Machine
end

section
/-! The entry checks of the booking table (R6 to R11) and its conflicts (R13 to R16): O17 to O20. -/

namespace Sys2Proof.Machine

/-! ## The order of the checks (R6) -/

theorem booking_isSome (h : Hall) (n : Nat) : (h.booking n).isSome = h.table.records.any (·.fields.number == n) := by
  rw [Hall.booking, List.isSome_find?]

theorem booking_isNone (h : Hall) (n : Nat) : (h.booking n).isNone = !h.table.records.any (·.fields.number == n) := by
  rw [← booking_isSome, Option.not_isSome]

/-- A conflict is named by one of the three conflict codes. -/
theorem conflictOf_code {e : Env} {h : Hall} {b : Offered} {r : ResultCode} {x : Nat × Bool}
    (found : conflictOf e h b = some (r, x)) : r = .conflictTx ∨ r = .conflictAnt ∨ r = .conflictFreq := by
  unfold conflictOf at found
  repeat' split at found
  all_goals simp_all

/-- Checks 3 to 6 never answer a conflict (R6). -/
theorem unfit_code {e : Env} {b : Offered} {r : ResultCode} (bad : unfit e b = some r) :
    r = .range ∨ r = .band ∨ r = .power ∨ r = .setting := by
  unfold unfit at bad
  repeat' split at bad
  all_goals simp_all

/-- What the entry checks can answer. -/
theorem entryCheck_cases {e : Env} {h : Hall} {amending : Bool} {b : Offered} {r : ResultCode} {x : Option (Nat × Bool)}
    (bad : entryCheck e h amending b = some (r, x)) :
    (∃ y, x = some y ∧ conflictOf e h b = some (r, y)) ∨
    (x = none ∧ (r = .format ∨ r = .season ∨ r = .exists ∨ r = .unknown ∨ r = .full ∨ unfit e b = some r)) := by
  unfold entryCheck at bad
  repeat' split at bad
  all_goals simp_all

/-- The first of a list of failed tests, each with its code, taken one test at a time. -/
theorem firstFailure_cons (p : Bool) (r : ResultCode) (rest : List (Bool × ResultCode)) :
    (((p, r) :: rest).find? (·.1)).map (·.2) = if p then some r else (rest.find? (·.1)).map (·.2) := by
  cases p <;> rfl

theorem ite_or (p : Prop) [Decidable p] (a b x : Option α) :
    (if p then a else b).or x = if p then a.or x else b.or x := by
  split <;> rfl

/-- The code of the entry checks, test by test (R6). -/
theorem entryCheck_code (e : Env) (h : Hall) (amending : Bool) (b : Offered) :
    (entryCheck e h amending b).map (·.1) =
      if !formatOk b then some .format
      else if !seasonOk e h b then some .season
      else (unfit e b).or
        (if !amending && (h.booking b.number).isSome then some .exists
         else if amending && (h.booking b.number).isNone then some .unknown
         else ((conflictOf e h b).map (·.1)).or
          (if !amending && decide (Config.tableCapacity ≤ h.table.records.length) then some .full else none)) := by
  unfold entryCheck
  repeat' split
  all_goals simp_all

/-- Settles O17: the model's nested tests are Table 5 read from the top. -/
theorem entryChecksInOrder : Obligations.EntryChecksInOrder := by
  unfold Obligations.EntryChecksInOrder
  intro e h amending b
  refine ⟨?_, fun r x bad => ?_, fun r bad => ?_⟩
  · have conflict (rest : Option ResultCode) : ((conflictOf e h b).map (·.1)).or rest =
        if (conflictOf e h b).isSome then some (((conflictOf e h b).map (·.1)).getD .done) else rest := by
      cases conflictOf e h b <;> rfl
    simp only [firstFailure_cons, List.find?_nil, Option.map_none, ← booking_isSome, Option.not_isSome]
    rw [entryCheck_code, conflict, unfit]
    simp only [ite_or, Option.some_or, Option.none_or]
  · rcases entryCheck_cases bad with ⟨y, same, found⟩ | ⟨no, _⟩
    · cases same; exact found
    · cases no
  · rcases entryCheck_cases bad with ⟨y, no, _⟩ | ⟨_, code⟩
    · cases no
    · rcases code with rfl | rfl | rfl | rfl | rfl | bad
      · decide
      · decide
      · decide
      · decide
      · decide
      · rcases unfit_code bad with rfl | rfl | rfl | rfl <;> decide

/-! ## What the checks test (R7 to R11) -/

theorem days_any (d : Weekdays) : d.toList.any id = true ↔ ∃ w : Fin 7, d[w.val] = true := by
  simp only [List.any_eq_true, id, Vector.mem_toList_iff, Vector.mem_iff_getElem]
  constructor
  · rintro ⟨_, ⟨i, lt, rfl⟩, yes⟩
    exact ⟨⟨i, lt⟩, yes⟩
  · rintro ⟨w, yes⟩
    exact ⟨_, ⟨w, w.isLt, rfl⟩, yes⟩

/-- R7, its cases one by one. -/
theorem formatOk_iff (b : Offered) : formatOk b = true ↔
    (1 ≤ b.number ∧ b.number ≤ 9999) ∧ (1 ≤ b.season ∧ b.season ≤ 255) ∧ b.transmitter ≤ 11 ∧ b.antenna ≤ 24 ∧
    (∀ a, b.alternate = some a → a ≤ 24 ∧ a ≠ b.antenna) ∧ (-6 ≤ b.setting.slew ∧ b.setting.slew ≤ 6) ∧
    (2300 ≤ b.frequency ∧ b.frequency ≤ 26100 ∧ 5 ∣ b.frequency) ∧ (10 ≤ b.power ∧ b.power ≤ 600) ∧ b.start ≤ 1439 ∧
    (1 ≤ b.duration ∧ b.duration ≤ 1440) ∧ (∃ w : Fin 7, b.days[w.val] = true) ∧
    (∀ f l, b.firstDay = some f → b.lastDay = some l → f ≤ l) ∧ b.label.length ≤ 12 ∧
    ∀ c ∈ b.label, 32 ≤ c ∧ c ≤ 126 := by
  have slew : b.setting.slew.natAbs ≤ 6 ↔ -6 ≤ b.setting.slew ∧ b.setting.slew ≤ 6 := by omega
  have alternate : b.alternate.all (fun a => decide (a ≤ 24) && a != b.antenna) = true ↔
      ∀ a, b.alternate = some a → a ≤ 24 ∧ a ≠ b.antenna := by
    cases b.alternate <;> simp
  unfold formatOk
  simp only [Bool.and_eq_true, decide_eq_true_eq, isFrequency, isPower, slew, alternate, days_any,
    List.all_eq_true, beq_iff_eq, Nat.dvd_iff_mod_eq_zero, Config.rows, Config.columns, Nat.lt_succ_iff, and_assoc]
  rcases b.firstDay with _ | f <;> rcases b.lastDay with _ | l <;> simp

/-- A season has ended when a later entry's first day is reached (R8, R36). -/
theorem endedOn_iff (entries : List SeasonEntry) (season day : Nat) : endedOn entries season day = true ↔
    ∃ own ∈ entries, own.id = season ∧ ∃ next ∈ entries, own.firstDay < next.firstDay ∧ next.firstDay ≤ day := by
  simp [endedOn]

theorem unset_iff (e : Env) : e.unset = true ↔ e.clock.status = .unset := by simp [Env.unset]

theorem seasonOk_iff (e : Env) (h : Hall) (b : Offered) : seasonOk e h b = true ↔
    (∃ s ∈ h.calendar.entries, s.id = b.season) ∧
    (e.clock.status ≠ .unset → ∀ s ∈ h.calendar.entries, s.id = b.season →
      ∀ n ∈ h.calendar.entries, s.firstDay < n.firstDay → e.clock.day < n.firstDay) := by
  have lasts : (!seasonEnded e h b.season) = true ↔
      (e.clock.status ≠ .unset → ∀ s ∈ h.calendar.entries, s.id = b.season →
        ∀ n ∈ h.calendar.entries, s.firstDay < n.firstDay → e.clock.day < n.firstDay) := by
    rw [seasonEnded, Bool.not_eq_true', Bool.and_eq_false_imp, Bool.not_eq_true', ← Bool.not_eq_true, unset_iff,
      ← Bool.not_eq_true, endedOn_iff]
    push Not
    rfl
  simp only [seasonOk, Bool.and_eq_true, lasts, List.any_eq_true, beq_iff_eq]

/-- A frequency lies in a window of the antenna (R10). -/
theorem inBand_iff (a : AntConfig) (f : Nat) : inBand a f = true ↔ ∃ w ∈ a.windows, w.low ≤ f ∧ f ≤ w.high := by
  simp [inBand]

theorem all_eq_true_iff (o : Option α) (p : α → Bool) : o.all p = true ↔ ∀ a, o = some a → p a = true := by
  cases o <;> simp

/-- Settles O18, check by check. -/
theorem fieldAndFitChecks : Obligations.FieldAndFitChecks := by
  unfold Obligations.FieldAndFitChecks
  refine ⟨formatOk_iff, fun e h b => ⟨seasonOk_iff e h b, ?_, ?_, ?_, ?_⟩⟩
  · simp only [rangeOk, Bool.and_eq_true, all_eq_true_iff, decide_eq_true_eq, and_assoc]
  · simp only [bandOk, Bool.and_eq_true, all_eq_true_iff, decide_eq_true_eq, inBand_iff]
  · simp only [powerOk, Bool.and_eq_true, decide_eq_true_eq]
  · simp only [settingOk, admits, Bool.and_eq_true, Bool.or_eq_true, decide_eq_true_eq, beq_iff_eq]
    cases b.setting.dir <;> simp

/-! ## Overlap in time (R14, R15) -/

theorem mem_weekStarts (b : Offered) (m : Nat) :
    m ∈ weekStarts b ↔ ∃ w : Fin 7, b.days[w.val] = true ∧ m = w.val * 1440 + b.start := by
  simp only [weekStarts, List.mem_map, List.mem_filter, List.mem_range]
  constructor
  · rintro ⟨w, ⟨lt, yes⟩, rfl⟩
    exact ⟨⟨w, lt⟩, by simpa [lt] using yes, rfl⟩
  · rintro ⟨w, yes, rfl⟩
    exact ⟨w, ⟨w.isLt, by simpa using yes⟩, rfl⟩

/-- On the circle of 10 080 minutes an interval begins within another, or the other within it. -/
theorem intervalsOverlap_iff (a da b db : Nat) : intervalsOverlap a da b db = true ↔
    ((b : Int) - (a : Int)) % 10080 < (da : Int) ∨ ((a : Int) - (b : Int)) % 10080 < (db : Int) := by
  simp only [intervalsOverlap, Bool.or_eq_true, decide_eq_true_eq]
  omega

/-- Settles O19: the weekly intervals begin at weekStarts. -/
theorem weeklyIntervalsOverlap : Obligations.WeeklyIntervalsOverlap := by
  unfold Obligations.WeeklyIntervalsOverlap
  intro x y
  simp only [weekOverlap, List.any_eq_true, mem_weekStarts, intervalsOverlap_iff]
  constructor
  · rintro ⟨_, ⟨v, xv, rfl⟩, _, ⟨w, yw, rfl⟩, meets⟩
    exact ⟨v, w, xv, yw, meets⟩
  · rintro ⟨v, w, xv, yw, meets⟩
    exact ⟨_, ⟨v, xv, rfl⟩, _, ⟨w, yw, rfl⟩, meets⟩

theorem lastReach_eq_some (b : Offered) (m : Nat) : lastReach b = some m ↔
    ∃ l, b.lastDay = some l ∧ m = l + if 1440 < b.start + b.duration then 1 else 0 := by
  unfold lastReach
  cases b.lastDay with
  | none => simp
  | some l =>
    simp only [Option.map_some, Option.some.injEq, exists_eq_left']
    split <;> exact eq_comm

theorem datesOverlap_iff (x y : Offered) : datesOverlap x y = true ↔
    (∀ f l, x.firstDay = some f → y.lastDay = some l → f ≤ l + if 1440 < y.start + y.duration then 1 else 0) ∧
    ∀ f l, y.firstDay = some f → x.lastDay = some l → f ≤ l + if 1440 < x.start + x.duration then 1 else 0 := by
  have half (x y : Offered) : (x.firstDay.all fun f => (lastReach y).all (f ≤ ·)) = true ↔
      ∀ f l, x.firstDay = some f → y.lastDay = some l → f ≤ l + if 1440 < y.start + y.duration then 1 else 0 := by
    simp only [all_eq_true_iff, lastReach_eq_some, decide_eq_true_eq]
    constructor
    · exact fun all f l begins ends => all f begins _ ⟨l, ends, rfl⟩
    · rintro all f begins _ ⟨l, ends, rfl⟩
      exact all f l begins ends
  rw [datesOverlap, Bool.and_eq_true, half, half]

/-! ## What an offered record is compared with (R13, R16) -/

/-- The fields of a record that are compared: the current, then the parked (R13). -/
def comparedOf (h : Hall) (r : Booking) : List Compared :=
  { number := r.fields.number, parked := false, fields := r.fields } ::
    ((parkedOf h r.fields.number).map fun p => { number := r.fields.number, parked := true, fields := p }).toList

theorem mem_comparedOf (h : Hall) (r : Booking) (c : Compared) : c ∈ comparedOf h r ↔ r.fields.number = c.number ∧
    ((c.parked = false ∧ c.fields = r.fields) ∨ (c.parked = true ∧ parkedOf h c.number = some c.fields)) := by
  obtain ⟨number, parked, fields⟩ := c
  simp only [comparedOf, List.mem_cons, Compared.mk.injEq, Option.mem_toList, Option.map_eq_some_iff]
  constructor
  · rintro (⟨rfl, rfl, rfl⟩ | ⟨p, eq, rfl, rfl, rfl⟩)
    · exact ⟨rfl, Or.inl ⟨rfl, rfl⟩⟩
    · exact ⟨rfl, Or.inr ⟨rfl, eq⟩⟩
  · rintro ⟨rfl, ⟨rfl, rfl⟩ | ⟨rfl, eq⟩⟩
    · exact Or.inl ⟨rfl, rfl, rfl⟩
    · exact Or.inr ⟨fields, eq, rfl, rfl, rfl⟩

theorem comparedWith_eq (h : Hall) (b : Offered) : comparedWith h b =
    ((h.table.records.flatMap fun r => if r.fields.number == b.number then [] else comparedOf h r).filter fun c =>
      c.fields.season == b.season && weekOverlap b c.fields && datesOverlap b c.fields) := rfl

theorem mem_comparedWith (h : Hall) (b : Offered) (c : Compared) : c ∈ comparedWith h b ↔
    c.number ≠ b.number ∧ c.fields.season = b.season ∧ weekOverlap b c.fields = true ∧ datesOverlap b c.fields = true ∧
    ∃ r ∈ h.table.records, r.fields.number = c.number ∧
      ((c.parked = false ∧ c.fields = r.fields) ∨ (c.parked = true ∧ parkedOf h c.number = some c.fields)) := by
  simp only [comparedWith_eq, List.mem_filter, List.mem_flatMap, List.mem_ite_nil_left, mem_comparedOf, beq_iff_eq,
    Bool.and_eq_true]
  constructor
  · rintro ⟨⟨r, mem, other, same, which⟩, ⟨season, week⟩, dates⟩
    exact ⟨same ▸ other, season, week, dates, r, mem, same, which⟩
  · rintro ⟨other, season, week, dates, r, mem, same, which⟩
    exact ⟨⟨r, mem, same ▸ other, same, which⟩, ⟨season, week⟩, dates⟩

/-- The first of the numbers below a bound that an optional map sends to a value with a property. -/
theorem find_filterMap_range (n : Nat) (f : Nat → Option α) (p : α → Bool) (x : α) :
    ((List.range n).filterMap f).find? p = some x ↔
      ∃ t, t < n ∧ f t = some x ∧ p x = true ∧ ∀ u, u < t → ∀ y, f u = some y → p y = false := by
  simp only [List.find?_filterMap, Option.bind_eq_some_iff, List.find?_range_eq_some, List.mem_range]
  constructor
  · rintro ⟨t, ⟨yes, lt, before⟩, eq⟩
    refine ⟨t, lt, eq, by simpa [eq] using yes, fun u less y found => ?_⟩
    simpa [found] using before u less
  · rintro ⟨t, lt, eq, yes, before⟩
    refine ⟨t, ⟨by simpa [eq] using yes, lt, fun u less => ?_⟩, eq⟩
    cases found : f u with
    | none => rfl
    | some y => simpa using before u less y found

theorem parkedOf_eq_some (h : Hall) (number : Nat) (p : Offered) : parkedOf h number = some p ↔
    ∃ t, t < 12 ∧ h.slotOf t = some p ∧ p.number = number ∧
      ∀ u, u < t → ∀ q, h.slotOf u = some q → q.number ≠ number := by
  simp only [parkedOf, allRows, find_filterMap_range, beq_iff_eq, beq_eq_false_iff_ne]

/-- Ascending number, and for one number the current fields before the parked. -/
def Compared.precedes (c d : Compared) : Prop :=
  c.number < d.number ∨ (c.number = d.number ∧ c.parked = false ∧ d.parked = true)

theorem comparedOf_ordered (h : Hall) (r : Booking) : (comparedOf h r).Pairwise Compared.precedes := by
  unfold comparedOf
  cases parkedOf h r.fields.number <;> simp [Compared.precedes]

theorem comparedWith_ordered {h : Hall} (ok : CollectionsOk h) (b : Offered) :
    (comparedWith h b).Pairwise Compared.precedes := by
  obtain ⟨numbers, -⟩ := ok
  rw [comparedWith_eq]
  refine List.Pairwise.filter _ (List.pairwise_flatMap.mpr ⟨fun r _ => ?_, ?_⟩)
  · split
    · exact List.Pairwise.nil
    · exact comparedOf_ordered h r
  · refine (List.pairwise_map.mp numbers).imp fun {r r'} less c mem d mem' => Or.inl ?_
    rw [List.mem_ite_nil_left] at mem mem'
    rw [← ((mem_comparedOf h r c).mp mem.2).1, ← ((mem_comparedOf h r' d).mp mem'.2).1]
    exact less

theorem absDiff_eq (a b : Nat) : absDiff a b = ((a : Int) - (b : Int)).natAbs := by
  unfold absDiff
  split <;> omega

/-- The first conflict found, transmitters before main antennas before frequencies (R6). -/
theorem conflictOf_eq (e : Env) (h : Hall) (b : Offered) : conflictOf e h b =
    ((((comparedWith h b).find? fun c => c.fields.transmitter == b.transmitter).map fun c =>
        (.conflictTx, c.number, c.parked)).or
      (((comparedWith h b).find? fun c => c.fields.antenna == b.antenna).map fun c =>
        (.conflictAnt, c.number, c.parked))).or
      (((comparedWith h b).find? fun c =>
        decide (((c.fields.frequency : Int) - (b.frequency : Int)).natAbs < e.config.hall.guard)).map fun c =>
          (.conflictFreq, c.number, c.parked)) := by
  simp only [conflictOf, absDiff_eq]
  cases (comparedWith h b).find? fun c => c.fields.transmitter == b.transmitter with
  | some c => rfl
  | none =>
    cases (comparedWith h b).find? fun c => c.fields.antenna == b.antenna with
    | some c => rfl
    | none => cases (comparedWith h b).find? _ <;> rfl

/-- Settles O20. -/
theorem conflictsOfARecord : Obligations.ConflictsOfARecord := by
  unfold Obligations.ConflictsOfARecord
  exact ⟨⟨datesOverlap_iff, fun h b => ⟨mem_comparedWith h b, parkedOf_eq_some h, fun ok => comparedWith_ordered ok b⟩⟩,
    conflictOf_eq⟩

end Sys2Proof.Machine
end

section
/-! ENTER, LOAD BLOCK, the nearly-full test and the commands that read the table, the calendar and the cues: O21, O22,
O23, O26. -/

namespace Sys2Proof.Machine

/-! ## Changes of the table with what the lookahead unit makes of them -/

/-- Only the booking table, the cues and the postings differ. -/
def OnlyTable (h h' : Hall) : Prop :=
  h' = { h with table := h'.table, lookahead := h'.lookahead, attention := h'.attention }

theorem OnlyTable.trans {a b c : Hall} (ab : OnlyTable a b) (bc : OnlyTable b c) : OnlyTable a c := by
  unfold OnlyTable at *
  rw [bc, ab]

theorem OnlyCues.onlyTable {h h' : Hall} (only : OnlyCues h h') : OnlyTable h h' := by
  unfold OnlyCues at only
  unfold OnlyTable
  rw [only]

/-! ## The nearly-full test (R5) -/

theorem nearlyFullTest_eq (e : Env) (h : Hall) : nearlyFullTest e h =
    if e.config.hall.nearlyFull < 1024 - h.table.records.length then { h with table := { h.table with armed := true } }
    else if h.table.armed = true then
      { h with table := { h.table with armed := false }
               attention := h.attention.post e.mask .tableNearlyFull (1024 - h.table.records.length) }
    else h := rfl

/-- Settles O21: what is posted is the free count. -/
theorem nearlyFullLevel : Obligations.NearlyFullLevel := by
  unfold Obligations.NearlyFullLevel
  exact nearlyFullTest_eq

/-- The nearly-full test changes the arming and the postings alone. -/
theorem nearlyFullTest_frame (e : Env) (h : Hall) : nearlyFullTest e h =
    { h with table := { h.table with armed := (nearlyFullTest e h).table.armed }
             attention := (nearlyFullTest e h).attention } := by
  rw [nearlyFullTest_eq]
  repeat' split
  all_goals rfl

theorem onlyTable_nearlyFullTest (e : Env) (h : Hall) : OnlyTable h (nearlyFullTest e h) := by
  unfold OnlyTable
  rw [nearlyFullTest_frame]

@[simp] theorem nearlyFullTest_records (e : Env) (h : Hall) : (nearlyFullTest e h).table.records = h.table.records := by
  rw [nearlyFullTest_frame]

@[simp] theorem nearlyFullTest_lookahead (e : Env) (h : Hall) : (nearlyFullTest e h).lookahead = h.lookahead := by
  rw [nearlyFullTest_frame]

/-! ## ENTER (R17) -/

/-- A command that a check refuses is answered with the check's code, and number and mark of a conflict. -/
theorem changing_checked {α : Type} {s : State} {link : Link} {code : Nat} {tag : Byte} {a : α}
    {run : α → Env → Hall → Effect} {result : Option (ResultCode × Option (Nat × Bool))} {follows : Effect}
    (yes : s.takes link = true) (eq : run a s.env s.hall = .checked result follows)
    {passed : Host.Outcome State Fault Refusal}
    (pass : run a s.env s.hall = follows → .next (frame link code tag (.fields a) (changing run) s) = passed) :
    .next (frame link code tag (.fields a) (changing run) s) =
      match result with
      | some (r, none) => answers s link code tag r
      | some (r, some (number, mark)) =>
        .next (s.reply link code tag (some { result := r, body := .booking number mark }))
      | none => passed := by
  match result with
  | some (r, none) => exact congrArg _ (changing_answered yes eq)
  | some (r, some (number, mark)) => exact congrArg _ (changing_answered yes eq)
  | none => exact pass eq

/-- The record as ENTER sets it (R1, R17). -/
def enteredAs (b : Offered) : Booking := { fields := b, state := .active, lastRun := none, outcome := .none }

theorem addBooking_records (e : Env) (b : Offered) (h : Hall) : (addBooking e b h).table.records =
    insertBy (fun x y => decide (x.fields.number < y.fields.number)) (enteredAs b) h.table.records := by
  unfold addBooking
  dsimp only
  rw [nearlyFullTest_records, table_of_books (refresh_books _ _ _)]
  rfl

theorem onlyTable_addBooking (e : Env) (b : Offered) (h : Hall) : OnlyTable h (addBooking e b h) :=
  have joined : OnlyTable h { h with table := { h.table with
      records := insertBy (fun x y => decide (x.fields.number < y.fields.number)) (enteredAs b) h.table.records } } := rfl
  (joined.trans (onlyCues_refresh e b.transmitter _).onlyTable).trans (onlyTable_nearlyFullTest e _)

/-- Settles O22. -/
theorem enterAddsTheRecord : Obligations.EnterAddsTheRecord := by
  unfold Obligations.EnterAddsTheRecord
  refine ⟨fun s tag b yes => ?_, fun e b h => ⟨fun r => ?_, ?_, ?_, onlyTable_addBooking e b h⟩⟩
  · exact changing_checked yes rfl fun pass => changing_done yes pass
  · rw [addBooking_records, (insertBy_perm _ _ _).mem_iff, List.mem_cons]
    rfl
  · rw [addBooking_records, (insertBy_perm _ _ _).length_eq, List.length_cons]
  · rw [addBooking_records]
    exact nearlyFullTest_lookahead _ _

/-! ## LOAD BLOCK (R18) -/

/-- A record judged last is judged against what the others leave. -/
theorem loadRecords_append (e : Env) (l : List Offered) (b : Offered) (h : Hall) : loadRecords e (l ++ [b]) h =
    (loadOne e b (loadRecords e l h).1,
      (loadRecords e l h).2 ++ [(entryCheck e (loadRecords e l h).1 false b).getD (.done, none)]) := by
  induction l generalizing h with
  | nil => rfl
  | cons a rest ih => simp only [List.cons_append, loadRecords, ih]

theorem loadRecords_length (e : Env) (l : List Offered) (h : Hall) : (loadRecords e l h).2.length = l.length := by
  induction l generalizing h with
  | nil => rfl
  | cons a rest ih => simp only [loadRecords, List.length_cons, ih]

/-- Settles O23. -/
theorem loadBlockJudgesInTurn : Obligations.LoadBlockJudgesInTurn := by
  unfold Obligations.LoadBlockJudgesInTurn
  refine ⟨fun s tag l yes => ?_, fun e l b h => ⟨rfl, ?_, loadRecords_length e l h⟩⟩
  · have number : (l.isEmpty || decide (8 < l.length)) = true ↔ l.length < 1 ∨ 8 < l.length := by
      cases l <;> simp
    split
    · next bad => exact changing_refused yes (if_pos (number.mpr bad))
    · next good => exact congrArg _ (changing_taken yes (if_neg (number.not.mpr good)))
  · rw [loadRecords_append, loadOne]
    cases entryCheck e (loadRecords e l h).1 false b <;> rfl

/-! ## The commands that read -/

/-- Settles O26: LIST's records are matched before or after their fields are taken. -/
theorem tableCalendarAndCuesRead : Obligations.TableCalendarAndCuesRead := by
  unfold Obligations.TableCalendarAndCuesRead
  refine ⟨⟨fun s link tag n yes => ?_, fun s tag a yes => ?_, fun h ok => ok.1⟩, fun s tag yes => ?_,
    fun s tag position yes => ?_⟩
  · exact congrArg _ (reading_answered yes)
  · intro found
    refine congrArg _ ((reading_answered yes).trans ?_)
    have same : (s.hall.table.records.filter fun b => a.start ≤ b.fields.number && listMatches a b.fields).map
        (·.fields.number) = found.map (·.number) := by
      simp only [found, List.filter_map, List.map_map, listMatches, Bool.and_assoc]
      rfl
    simp only [listRun, same]
    simp only [found, List.length_map, Bool.or_eq_true, decide_eq_true_eq, or_assoc]
    rfl
  · exact congrArg _ (reading_answered yes)
  · refine congrArg _ ((reading_answered yes).trans ?_)
    congr 2

end Sys2Proof.Machine
end

section
/-! The lookahead unit's scan (R44 to R50): its order, its room, its postings, and what it finds. -/

namespace Sys2Proof.Machine

/-! ## Lists in order -/

section Order

variable {α : Type} {less : α → α → Bool} (asymm : ∀ a b, less a b = true → less b a = false)
  (trans : ∀ a b c, less b a = false → less c b = false → less c a = false)

include asymm trans

theorem insertBy_pairwise (x : α) (l : List α) (sorted : l.Pairwise fun a b => less b a = false) :
    (insertBy less x l).Pairwise fun a b => less b a = false := by
  induction l with
  | nil => simp [insertBy]
  | cons y rest ih =>
    obtain ⟨least, tail⟩ := List.pairwise_cons.mp sorted
    unfold insertBy
    split
    · next before =>
      refine List.pairwise_cons.mpr ⟨fun z mem => ?_, ih tail⟩
      rcases List.mem_cons.mp ((insertBy_perm less x rest).subset mem) with rfl | old
      · exact asymm _ _ before
      · exact least z old
    · next notBefore =>
      have after : less y x = false := Bool.eq_false_iff.mpr notBefore
      refine List.pairwise_cons.mpr ⟨fun z mem => ?_, sorted⟩
      rcases List.mem_cons.mp mem with rfl | old
      · exact after
      · exact trans _ _ _ after (least z old)

theorem sortBy_pairwise (l : List α) : (sortBy less l).Pairwise fun a b => less b a = false := by
  induction l with
  | nil => exact List.Pairwise.nil
  | cons x rest ih => exact insertBy_pairwise asymm trans x _ ih

end Order

theorem cueKind_eq_iff (a b : CueKind) : a = b ↔ a.ctorIdx = b.ctorIdx := by cases a <;> cases b <;> decide

theorem before_iff (a b : Cue) : a.before b = true ↔
    a.due < b.due ∨ (a.due = b.due ∧ (a.kind.ctorIdx < b.kind.ctorIdx ∨ (a.kind = b.kind ∧
      (a.transmitter < b.transmitter ∨ (a.transmitter = b.transmitter ∧
        (a.booking < b.booking ∨ (a.booking = b.booking ∧ a.day < b.day))))))) := by
  simp only [Cue.before, ne_eq, cueKind_eq_iff]
  repeat' split
  all_goals simp only [decide_eq_true_eq]; omega

theorem before_asymm (a b : Cue) (before : a.before b = true) : b.before a = false := by
  rw [← Bool.not_eq_true]
  rw [before_iff, cueKind_eq_iff] at *
  omega

theorem before_trans (a b c : Cue) (ab : b.before a = false) (bc : c.before b = false) : c.before a = false := by
  rw [← Bool.not_eq_true] at *
  rw [before_iff, cueKind_eq_iff] at *
  omega

/-! ## The postings for a new PREPARE (R50, R62) -/

/-- A cue without its reported field. -/
def plainCue (c : Cue) : Cue := { c with said := { late := false, clamped := false } }

theorem plainCue_addSaid (n d : Nat) (late clamped : Bool) (c : Cue) : plainCue (addSaid n d late clamped c) = plainCue c := by
  unfold addSaid
  split <;> rfl

/-- What the postings of a scan leave: the lookahead unit but for the reported fields, and every other kind posted. -/
structure PreparesPosted (h h' : Hall) : Prop where
  readmit : h'.lookahead.readmit = h.lookahead.readmit
  short : h'.lookahead.short = h.lookahead.short
  cues : h'.lookahead.cues.map plainCue = h.lookahead.cues.map plainCue
  planning : ∀ k : EventKind, k ≠ .late → k ≠ .leadClamped →
    read h'.attention.planning k.bit = read h.attention.planning k.bit

theorem kind_bit_inj {j k : EventKind} (same : j.bit = k.bit) : j = k := by
  revert same
  cases j <;> cases k <;> decide

theorem kind_bit_lt (k : EventKind) : k.bit < 24 := by cases k <;> decide

/-- What the planning summary holds of a kind after a posting (R188). -/
theorem planning_post_same (mask : KindSet) (k : EventKind) (v : Nat) (a : Attention) :
    read (a.post mask k v).planning k.bit = some v := read_write_same _ _ _ (kind_bit_lt k)

theorem planning_post_ne (mask : KindSet) {j k : EventKind} (v : Nat) (a : Attention) (ne : j ≠ k) :
    read (a.post mask k v).planning j.bit = read a.planning j.bit :=
  read_write_ne _ _ _ _ fun same => ne (kind_bit_inj same)

theorem preparesPosted_refl (h : Hall) : PreparesPosted h h := ⟨rfl, rfl, rfl, fun _ _ _ => rfl⟩

theorem PreparesPosted.trans {a b c : Hall} (ab : PreparesPosted a b) (bc : PreparesPosted b c) : PreparesPosted a c where
  readmit := bc.readmit.trans ab.readmit
  short := bc.short.trans ab.short
  cues := bc.cues.trans ab.cues
  planning k late clamped := (bc.planning k late clamped).trans (ab.planning k late clamped)

theorem postPrepare_eq (e : Env) (c : Cue) (h : Hall) :
    let late := 0 < c.lateness ∧ c.said.late = false
    let clamped := c.clamped = true ∧ c.said.clamped = false
    let one := if late then post e .late c.booking h else h
    let both := if clamped then post e .leadClamped c.booking one else one
    postPrepare e c h = both.mapLookahead fun l => { l with cues := l.cues.map fun x =>
      if x.booking = c.booking ∧ x.day = c.day then
        { x with said := { late := x.said.late || decide late, clamped := x.said.clamped || decide clamped } }
      else x } := by
  unfold postPrepare addSaid Cue.isOf
  simp

theorem postPrepare_posted (e : Env) (c : Cue) (h : Hall) : PreparesPosted h (postPrepare e c h) := by
  have said (h : Hall) (late clamped : Bool) : PreparesPosted h
      (h.mapLookahead fun l => { l with cues := l.cues.map (addSaid c.booking c.day late clamped) }) :=
    ⟨rfl, rfl, by simp [plainCue_addSaid], fun _ _ _ => rfl⟩
  have posted (h : Hall) {k : EventKind} (which : k = .late ∨ k = .leadClamped) : PreparesPosted h (post e k c.booking h) :=
    ⟨rfl, rfl, rfl, fun j late clamped => planning_post_ne _ _ _ (by rcases which with rfl | rfl <;> assumption)⟩
  unfold postPrepare
  dsimp only
  refine PreparesPosted.trans ?_ (said _ _ _)
  split
  · refine PreparesPosted.trans ?_ (posted _ (Or.inr rfl))
    split
    · exact posted h (Or.inl rfl)
    · exact preparesPosted_refl h
  · split
    · exact posted h (Or.inl rfl)
    · exact preparesPosted_refl h

theorem postPrepares_posted (e : Env) (l : List Cue) (h : Hall) :
    PreparesPosted h (l.foldl (fun h c => postPrepare e c h) h) :=
  foldl_keeps (PreparesPosted h) l _ (fun c _ h' so => so.trans (postPrepare_posted e c h')) h (preparesPosted_refl h)

/-! ## The shortage flag (R46) -/

theorem setShort_eq (e : Env) (l : List Group) (h : Hall) : setShort e l h =
    if l = [] then h.mapLookahead fun l => { l with short := false }
    else if h.lookahead.short = true then h
    else post e .cuesShort (l.map (·.cues.length)).sum (h.mapLookahead fun l => { l with short := true }) := by
  cases l <;> rfl

theorem setShort_readmit (e : Env) (l : List Group) (h : Hall) :
    (setShort e l h).lookahead.readmit = h.lookahead.readmit := by
  rw [setShort_eq]
  repeat' split
  all_goals rfl

theorem setShort_cues (e : Env) (l : List Group) (h : Hall) : (setShort e l h).lookahead.cues = h.lookahead.cues := by
  rw [setShort_eq]
  repeat' split
  all_goals rfl

theorem setShort_short (e : Env) (l : List Group) (h : Hall) : (setShort e l h).lookahead.short = true ↔ l ≠ [] := by
  rw [setShort_eq]
  repeat' split
  all_goals simp_all

theorem setShort_planning (e : Env) (l : List Group) (h : Hall) (k : EventKind) (ne : k ≠ .cuesShort) :
    read (setShort e l h).attention.planning k.bit = read h.attention.planning k.bit := by
  rw [setShort_eq]
  repeat' split
  · rfl
  · rfl
  · exact planning_post_ne _ _ _ ne

theorem setShort_cuesShort (e : Env) (l : List Group) (h : Hall) :
    read (setShort e l h).attention.planning EventKind.cuesShort.bit =
      if l ≠ [] ∧ h.lookahead.short = false then some (l.map (·.cues.length)).sum
      else read h.attention.planning EventKind.cuesShort.bit := by
  rw [setShort_eq]
  repeat' split
  all_goals simp_all [planning_post_same]

/-! ## The room of the list (R46) -/

theorem fit_append (room : Nat) (l : List Group) : (fit room l).1 ++ (fit room l).2 = l := by
  induction l generalizing room with
  | nil => rfl
  | cons g rest ih =>
    unfold fit
    split
    · exact congrArg (g :: ·) (ih _)
    · rfl

theorem fit_room (room : Nat) (l : List Group) : ((fit room l).1.map (·.cues.length)).sum ≤ room := by
  induction l generalizing room with
  | nil => exact Nat.zero_le _
  | cons g rest ih =>
    unfold fit
    split
    · have := ih (room - g.cues.length)
      simp only [List.map_cons, List.sum_cons]
      omega
    · exact Nat.zero_le _

/-- The first occurrence left out does not fit beside those admitted. -/
theorem fit_full (room : Nat) (l : List Group) (g : Group) (rest : List Group) (out : (fit room l).2 = g :: rest) :
    room < ((fit room l).1.map (·.cues.length)).sum + g.cues.length := by
  induction l generalizing room with
  | nil => cases out
  | cons x others ih =>
    unfold fit at out ⊢
    split
    · next fits =>
      rw [if_pos fits] at out
      have := ih (room - x.cues.length) out
      simp only [List.map_cons, List.sum_cons]
      omega
    · next big =>
      rw [if_neg big] at out
      cases out
      simpa using big

/-! ## A scan, part by part (R46, R50) -/

/-- The cues that a scan leaves in the list outright. -/
def keptCues (how : Nat → Remake) (h : Hall) : List Cue :=
  (currentCues h).filter fun c => isTaken (currentCues h) c.booking c.day || decide (how c.transmitter = .lacking)

/-- What a scan finds, over all transmitters. -/
def foundGroups (e : Env) (how : Nat → Remake) (h : Hall) : List Group :=
  (List.range 12).flatMap fun t => groupsFor e h (currentCues h) (how t) t

/-- What a scan finds, split into what the list has room for and what is left out. -/
def fittedGroups (e : Env) (how : Nat → Remake) (h : Hall) : List Group × List Group :=
  fit (192 - (keptCues how h).length) (sortBy Group.before (foundGroups e how h))

/-- The cues of the list after a scan, before their reported fields are joined. -/
def placedCues (e : Env) (how : Nat → Remake) (h : Hall) : List Cue :=
  keptCues how h ++ (fittedGroups e how h).1.flatMap (·.cues)

/-- The PREPAREs that a scan has made. -/
def newPrepares (e : Env) (how : Nat → Remake) (h : Hall) : List Cue :=
  ((foundGroups e how h).filter fun g => g.made && hasGroup (fittedGroups e how h).1 g).flatMap fun g =>
    g.cues.filter fun c => c.kind == .prepare

/-- The hall with the list made again and the shortage flag set, before the PREPAREs are posted. -/
def relisted (e : Env) (how : Nat → Remake) (h : Hall) : Hall :=
  setShort e (fittedGroups e how h).2
    (h.mapLookahead fun l => { l with cues := sortBy Cue.before (placedCues e how h) })

theorem remake_survey {e : Env} {how : Nat → Remake} {h : Hall} (running : h.matrix.survey ≠ none) :
    remake e how h = h := by
  simp [remake, Option.isSome_iff_ne_none, running]

theorem remake_eq {e : Env} {how : Nat → Remake} {h : Hall} (no : h.matrix.survey = none) :
    remake e how h = (newPrepares e how h).foldl (fun h c => postPrepare e c h) (relisted e how h) := by
  unfold remake
  rw [if_neg (by simp [no])]
  rfl

theorem remake_posted (e : Env) (how : Nat → Remake) {h : Hall} (no : h.matrix.survey = none) :
    PreparesPosted (relisted e how h) (remake e how h) := by
  rw [remake_eq no]
  exact postPrepares_posted e _ _

theorem remake_readmit (e : Env) (how : Nat → Remake) (h : Hall) :
    (remake e how h).lookahead.readmit = h.lookahead.readmit := by
  by_cases no : h.matrix.survey = none
  · exact (remake_posted e how no).readmit.trans (setShort_readmit _ _ _)
  · rw [remake_survey no]

theorem remake_plain (e : Env) (how : Nat → Remake) {h : Hall} (no : h.matrix.survey = none) :
    (remake e how h).lookahead.cues.map plainCue = (sortBy Cue.before (placedCues e how h)).map plainCue := by
  rw [(remake_posted e how no).cues, relisted, setShort_cues]
  rfl

theorem remake_sorted (e : Env) (how : Nat → Remake) {h : Hall} (no : h.matrix.survey = none) :
    (remake e how h).lookahead.cues.Pairwise fun a b => b.before a = false := by
  have sorted := sortBy_pairwise before_asymm before_trans (placedCues e how h)
  have plain (l : List Cue) : (l.map plainCue).Pairwise (fun a b => b.before a = false) ↔
      l.Pairwise fun a b => b.before a = false := List.pairwise_map
  rw [← plain, remake_plain e how no, plain]
  exact sorted

theorem remake_perm (e : Env) (how : Nat → Remake) {h : Hall} (no : h.matrix.survey = none) :
    ((remake e how h).lookahead.cues.map plainCue).Perm ((placedCues e how h).map plainCue) := by
  rw [remake_plain e how no]
  exact (sortBy_perm _ _).map _

theorem remake_length (e : Env) (how : Nat → Remake) {h : Hall} (no : h.matrix.survey = none)
    (room : h.lookahead.cues.length ≤ 192) : (remake e how h).lookahead.cues.length ≤ 192 := by
  have same := (remake_perm e how no).length_eq
  have kept : (keptCues how h).length ≤ h.lookahead.cues.length :=
    (List.length_filter_le _ _).trans (List.length_filterMap_le _ _)
  have fits := fit_room (192 - (keptCues how h).length) (sortBy Group.before (foundGroups e how h))
  simp only [List.length_map, placedCues, List.length_append, List.length_flatMap, fittedGroups] at same
  omega

theorem remake_short (e : Env) (how : Nat → Remake) {h : Hall} (no : h.matrix.survey = none) :
    (remake e how h).lookahead.short = true ↔ (fittedGroups e how h).2 ≠ [] := by
  rw [(remake_posted e how no).short]
  exact setShort_short e _ _

theorem remake_cuesShort (e : Env) (how : Nat → Remake) {h : Hall} (no : h.matrix.survey = none) :
    read (remake e how h).attention.planning EventKind.cuesShort.bit =
      if (fittedGroups e how h).2 ≠ [] ∧ h.lookahead.short = false then
        some ((fittedGroups e how h).2.map (·.cues.length)).sum
      else read h.attention.planning EventKind.cuesShort.bit := by
  rw [(remake_posted e how no).planning _ (by decide) (by decide)]
  exact setShort_cuesShort e _ _

/-- A scan posts LATE, LEAD_CLAMPED and CUES_SHORT alone (R46, R50). -/
theorem remake_planning (e : Env) (how : Nat → Remake) (h : Hall) (k : EventKind) (late : k ≠ .late)
    (clamped : k ≠ .leadClamped) (short : k ≠ .cuesShort) :
    read (remake e how h).attention.planning k.bit = read h.attention.planning k.bit := by
  by_cases no : h.matrix.survey = none
  · exact ((remake_posted e how no).planning k late clamped).trans (setShort_planning e _ _ k short)
  · rw [remake_survey no]

/-- Where only what the list lacks is made, every cue of the list stays (R35). -/
theorem remake_lacking (e : Env) {how : Nat → Remake} {h : Hall} (no : h.matrix.survey = none)
    (lacking : ∀ t, how t = .lacking) (c : Cue) (mem : c ∈ currentCues h) :
    plainCue c ∈ (remake e how h).lookahead.cues.map plainCue := by
  refine (remake_perm e how no).mem_iff.mpr (List.mem_map_of_mem (List.mem_append_left _ ?_))
  exact List.mem_filter.mpr ⟨mem, by simp [lacking]⟩

/-! ## Cues and groups of the list (R47) -/

theorem isTaken_iff (cues : List Cue) (number day : Nat) : isTaken cues number day = true ↔
    ∀ c ∈ cues, c.booking = number → c.day = day → c.kind ≠ .prepare ∧ c.carry = false := by
  simp [isTaken, Cue.isOf, Cue.isFirst]

theorem mem_currentCues (h : Hall) (c : Cue) : c ∈ currentCues h ↔
    ∃ x ∈ h.lookahead.cues, ∃ b, h.booking x.booking = some b ∧ c = { x with transmitter := b.fields.transmitter } := by
  simp only [currentCues, List.mem_filterMap, Option.map_eq_some_iff]
  constructor
  · rintro ⟨x, mem, b, found, rfl⟩
    exact ⟨x, mem, b, found, rfl⟩
  · rintro ⟨x, mem, b, found, rfl⟩
    exact ⟨x, mem, b, found, rfl⟩

theorem nodup_eraseDups {α : Type} [BEq α] [LawfulBEq α] (l : List α) : l.eraseDups.Nodup := by
  induction len : l.length using Nat.strong_induction_on generalizing l with
  | _ n ih =>
    cases l with
    | nil => exact List.nodup_nil
    | cons a rest =>
      have less : (rest.filter fun b => !b == a).length < n := by
        have := List.length_filter_le (fun b => !b == a) rest
        rw [← len, List.length_cons]
        omega
      rw [List.eraseDups_cons, List.nodup_cons, List.mem_eraseDups]
      exact ⟨by simp, ih _ less _ rfl⟩

theorem mem_groupsOf (cues : List Cue) (g : Group) : g ∈ groupsOf cues ↔
    (∃ c ∈ cues, c.booking = g.booking ∧ c.day = g.day) ∧ g.made = false ∧
      g.cues = cues.filter fun c => c.booking == g.booking && c.day == g.day := by
  obtain ⟨booking, day, own, made⟩ := g
  simp only [groupsOf, List.mem_map, List.mem_eraseDups, Group.mk.injEq, exists_exists_and_eq_and]
  constructor
  · rintro ⟨c, mem, rfl, rfl, rfl, rfl⟩
    exact ⟨⟨c, mem, rfl, rfl⟩, rfl, rfl⟩
  · rintro ⟨⟨c, mem, rfl, rfl⟩, rfl, rfl⟩
    exact ⟨c, mem, rfl, rfl, rfl, rfl⟩

theorem groupsOf_nodup (cues : List Cue) : ((groupsOf cues).map fun g => (g.booking, g.day)).Nodup := by
  rw [groupsOf, List.map_map]
  refine (nodup_eraseDups _).map fun a b same => ?_
  cases a; cases b
  simpa using same

theorem stands_iff (e : Env) (h : Hall) (t : Nat) (g : Group) : g.stands e h t = true ↔
    g.firstDue ≤ e.now ∧ ∃ b, h.booking g.booking = some b ∧ admissible e h t b g.day = true := by
  simp [Group.stands, Option.any_eq_true]

theorem firstDue_cons {g : Group} {c : Cue} {rest : List Cue} (cues : g.cues = c :: rest)
    (first : c.kind = .prepare ∨ c.carry = true) : g.firstDue = c.due := by
  have is : c.isFirst = true := by simpa [Cue.isFirst] using first
  simp [Group.firstDue, Group.first, cues, is]

/-! ## What a scan can take in (R45, R56) -/

theorem admissible_iff (e : Env) (h : Hall) (t : Nat) (b : Booking) (day : Nat) : admissible e h t b day = true ↔
    e.clock.status ≠ .unset ∧ e.mode ≠ .configuring ∧ b.state = .active ∧ b.fields.transmitter = t ∧ day ≤ 65535 ∧
      ((carriesDay h.calendar.entries b.fields day = true ∧ ∀ l, b.lastRun = some l → l < day) ∨
        ∃ o ∈ h.lookahead.readmit, o.booking = b.fields.number ∧ o.day = day) := by
  simp only [admissible, admitting, carriesFresh, isReadmitted, Bool.and_eq_true, Bool.or_eq_true, Bool.not_eq_true',
    ← Bool.not_eq_true, unset_iff, bne_iff_ne, beq_iff_eq, decide_eq_true_eq, all_eq_true_iff, List.any_eq_true, and_assoc,
    ne_eq, Config.lastDay]

theorem isReadmitted_iff (h : Hall) (number day : Nat) : isReadmitted h number day = true ↔
    ∃ o ∈ h.lookahead.readmit, o.booking = number ∧ o.day = day := by
  simp [isReadmitted]

theorem mem_candidateDays (e : Env) (h : Hall) (number d : Nat) : d ∈ candidateDays e h number ↔
    d + 1 = e.clock.day ∨ d = e.clock.day ∨ d = e.clock.day + 1 ∨
      ∃ o ∈ h.lookahead.readmit, o.booking = number ∧ o.day = d := by
  have yesterday : d ∈ (if e.clock.day = 0 then [] else [e.clock.day - 1]) ↔ d + 1 = e.clock.day := by
    split
    · simp; omega
    · simp; omega
  simp [candidateDays, List.mem_eraseDups, yesterday, and_assoc]

theorem mem_freshItems (e : Env) (h : Hall) (t : Nat) (i : Item) : i ∈ freshItems e h t ↔
    ∃ b ∈ h.table.records, ∃ d,
      (d + 1 = e.clock.day ∨ d = e.clock.day ∨ d = e.clock.day + 1 ∨
        ∃ o ∈ h.lookahead.readmit, o.booking = b.fields.number ∧ o.day = d) ∧
      admissible e h t b d = true ∧ e.now < endOn b.fields d ∧
      i = itemOf b.fields d true (isReadmitted h b.fields.number d) := by
  simp only [freshItems, List.mem_flatMap]
  refine exists_congr fun b => and_congr_right fun _ => ?_
  rw [List.mem_ite_nil_right]
  simp only [List.mem_map, List.mem_filter, mem_candidateDays, Bool.and_eq_true, decide_eq_true_eq]
  constructor
  · rintro ⟨_, d, ⟨day, adm, on⟩, rfl⟩
    exact ⟨d, day, adm, on, rfl⟩
  · rintro ⟨d, day, adm, on, rfl⟩
    obtain ⟨-, -, -, own, -⟩ := (admissible_iff e h t b d).mp adm
    exact ⟨own, d, ⟨day, adm, on⟩, rfl⟩

/-- The order of the prediction sequence (R56): start, then booking number. -/
def itemBefore (a b : Item) : Bool := decide (a.start < b.start ∨ (a.start = b.start ∧ a.booking < b.booking))

theorem itemBefore_sorted (l : List Item) : (sortBy itemBefore l).Pairwise fun a b =>
    a.start < b.start ∨ (a.start = b.start ∧ a.booking ≤ b.booking) := by
  have sorted := sortBy_pairwise (less := itemBefore) (fun a b => ?_) (fun a b c => ?_) l
  · refine sorted.imp fun {a b} after => ?_
    simp only [itemBefore, decide_eq_false_iff_not] at after
    omega
  · simp only [itemBefore, decide_eq_true_eq, decide_eq_false_iff_not]
    omega
  · simp only [itemBefore, decide_eq_false_iff_not]
    omega

theorem sequence_eq (e : Env) (h : Hall) (t : Nat) :
    let fresh := freshItems e h t
    let apart := fun i : Item => ¬ ∃ f ∈ fresh, f.booking = i.booking ∧ f.day = i.day
    let running := ((h.carriage t).toList.map carriageItem).filter fun i => decide (apart i)
    let waiting := ((h.waitingList t).filterMap fun w => (h.booking w.booking).map fun b =>
      itemOf b.fields w.day false false).filter fun i => decide (apart i)
    Machine.sequence e h t =
      if waiting = [] then sortBy itemBefore (running ++ fresh) else running ++ waiting ++ sortBy itemBefore fresh := by
  have again (fresh : List Item) : (fun i : Item => decide ¬ ∃ f ∈ fresh, f.booking = i.booking ∧ f.day = i.day) =
      fun i => !fresh.any fun f => f.booking == i.booking && f.day == i.day := by
    funext i
    rw [Bool.eq_iff_iff]
    simp
  have order : (fun a b : Item => decide (a.start < b.start) || (a.start == b.start && decide (a.booking < b.booking))) =
      itemBefore := by
    funext a b
    rw [Bool.eq_iff_iff]
    simp [itemBefore]
  have carried : ((h.carriage t).map carriageItem).toList = (h.carriage t).toList.map carriageItem := by
    cases h.carriage t <;> rfl
  simp only [Machine.sequence, again, order, carried, List.isEmpty_iff]

/-! ## Readmissions (R53) -/

theorem refresh_readmit (e : Env) (t : Nat) (h : Hall) : (refresh e t h).lookahead.readmit = h.lookahead.readmit := by
  unfold refresh scan
  exact remake_readmit e _ h

theorem readmit_over {e : Env} {number day : Nat} {b : Booking} {h : Hall} (found : h.booking number = some b)
    (done : endOn b.fields day ≤ e.now) : readmit e number day h = h := by
  simp [readmit, found, done]

theorem readmit_list {e : Env} {number day : Nat} {b : Booking} {h : Hall} (found : h.booking number = some b)
    (lasts : e.now < endOn b.fields day) : (readmit e number day h).lookahead.readmit =
      if isReadmitted h number day then h.lookahead.readmit
      else h.lookahead.readmit.filter (fun o => o.booking != number) ++ [{ booking := number, day := day }] := by
  simp only [readmit, found, if_neg (Nat.not_le.mpr lasts)]
  split
  · exact refresh_readmit _ _ _
  · exact refresh_readmit _ _ _

/-- Settles O36: a scan relists what is kept and what fits, in order, and its postings leave that list as it is. -/
theorem cueListAndReadmissions : Obligations.CueListAndReadmissions := by
  unfold Obligations.CueListAndReadmissions
  refine ⟨⟨before_iff, by decide, fun e ts t h => ⟨rfl, rfl⟩, fun e how h =>
      ⟨remake_survey, remake_sorted e how, remake_readmit e how h, onlyCues_remake e how h⟩⟩,
    ⟨fun room l => ⟨fit_append room l, fit_room room l, fit_full room l⟩, fun e how h no => ?_⟩,
    postPrepare_eq,
    ⟨isTaken_iff, mem_currentCues, fun cues g => ⟨mem_groupsOf cues g, groupsOf_nodup cues⟩,
      fun e h t g => ⟨stands_iff e h t g, fun c rest cues first => firstDue_cons cues first⟩, fun e h cues how t => ?_⟩,
    ⟨admissible_iff, fun b c h number day fresh again => ⟨?_, ?_, rfl, rfl, isReadmitted_iff h number day⟩, mem_freshItems,
      fun e h t => ⟨sequence_eq e h t, fun l => ⟨sortBy_perm _ l, itemBefore_sorted l⟩⟩, fun e h t pred i rest => ?_⟩,
    fun e number day b h found => ⟨readmit_over found, fun lasts => ⟨?_, fun new => ?_, fun old => ?_⟩⟩⟩
  · refine ⟨?_, remake_perm e how no, remake_lacking e no, remake_length e how no, remake_short e how no,
      remake_cuesShort e how no⟩
    rw [remake_eq no, relisted, setShort_eq]
    rfl
  · cases how <;> rfl
  · rfl
  · rfl
  · exact ⟨rfl, rfl, rfl⟩
  · rw [isReadmitted, readmit_list found lasts]
    split
    · assumption
    · simp
  · rw [readmit_list found lasts, new]; rfl
  · rw [readmit_list found lasts, old]; rfl

end Sys2Proof.Machine
end

section
/-! A clock advance handed on, the tests of a new day, and records leaving the table (R4, R24, R31 to R35, R40): O31. -/

namespace Sys2Proof.Machine

/-! ## Seasons that leave the calendar (R40) -/

/-- Only the entries of the calendar differ. -/
def OnlyEntries (h h' : Hall) : Prop := h' = { h with calendar := { h.calendar with entries := h'.calendar.entries } }

theorem OnlyEntries.trans {a b c : Hall} (ab : OnlyEntries a b) (bc : OnlyEntries b c) : OnlyEntries a c := by
  unfold OnlyEntries at *
  rw [bc, ab]

theorem onlyEntries_seasonTest (e : Env) (season : Nat) (h : Hall) : OnlyEntries h (seasonTest e season h) := by
  unfold seasonTest
  split <;> rfl

theorem onlyEntries_seasonTests (e : Env) (l : List Booking) (h : Hall) :
    OnlyEntries h (l.foldl (fun h b => seasonTest e b.fields.season h) h) :=
  foldl_keeps (OnlyEntries h) l _ (fun _ _ _ only => only.trans (onlyEntries_seasonTest e _ _)) h rfl

/-! ## Records that leave the table (R4) -/

/-- Records taken out of the table with their readmission and resume entries, before anyone is told (R4, R168). -/
def unlisted (gone : List Booking) (h : Hall) : Hall :=
  { h with
    table := { h.table with records := h.table.records.filter fun r => !gone.any (·.fields.number == r.fields.number) }
    lookahead := { h.lookahead with
      readmit := h.lookahead.readmit.filter fun o => !gone.any (·.fields.number == o.booking) }
    resume := h.resume.filter fun r => !gone.any (·.fields.number == r.booking) }

/-- Records that leave are taken out, their transmitters scanned and their seasons tested. -/
theorem removeBookings_eq (e : Env) (gone : List Booking) (h : Hall) : removeBookings e gone h =
    gone.foldl (fun h b => seasonTest e b.fields.season h) (scan e (gone.map (·.fields.transmitter)) (unlisted gone h)) :=
  rfl

theorem scan_planning (e : Env) (ts : List Nat) (h : Hall) (k : EventKind) (late : k ≠ .late)
    (clamped : k ≠ .leadClamped) (short : k ≠ .cuesShort) :
    read (scan e ts h).attention.planning k.bit = read h.attention.planning k.bit := by
  unfold scan
  exact remake_planning e _ h k late clamped short

section Removal

variable (e : Env) (gone : List Booking) (h : Hall)

theorem onlyEntries_removeBookings :
    OnlyEntries (scan e (gone.map (·.fields.transmitter)) (unlisted gone h)) (removeBookings e gone h) :=
  onlyEntries_seasonTests e gone _

theorem removeBookings_records : (removeBookings e gone h).table.records =
    h.table.records.filter fun r => !gone.any (·.fields.number == r.fields.number) := by
  rw [onlyEntries_removeBookings e gone h]
  dsimp only
  rw [table_of_books (scan_books _ _ _)]
  rfl

theorem removeBookings_live : (removeBookings e gone h).calendar.live = h.calendar.live := by
  rw [onlyEntries_removeBookings e gone h]
  dsimp only
  rw [calendar_of_books (scan_books _ _ _)]
  rfl

theorem removeBookings_lookahead : (removeBookings e gone h).lookahead =
    (scan e (gone.map (·.fields.transmitter)) (unlisted gone h)).lookahead := by
  rw [onlyEntries_removeBookings e gone h]

/-- Removals post what a scan posts alone. -/
theorem removeBookings_planning (k : EventKind) (late : k ≠ .late) (clamped : k ≠ .leadClamped) (short : k ≠ .cuesShort) :
    read (removeBookings e gone h).attention.planning k.bit = read h.attention.planning k.bit := by
  rw [onlyEntries_removeBookings e gone h]
  exact scan_planning e _ (unlisted gone h) k late clamped short

end Removal

theorem nearlyFullTest_calendar (e : Env) (h : Hall) : (nearlyFullTest e h).calendar = h.calendar := by
  rw [nearlyFullTest_frame]

theorem nearlyFullTest_planning (e : Env) (h : Hall) (k : EventKind) (ne : k ≠ .tableNearlyFull) :
    read (nearlyFullTest e h).attention.planning k.bit = read h.attention.planning k.bit := by
  rw [nearlyFullTest_eq]
  repeat' split
  · rfl
  · exact planning_post_ne _ _ _ ne
  · rfl

/-! ## Retirement (R24) -/

/-- The records of a list whose season has ended and that no carriage serves. -/
def retiring (e : Env) (h : Hall) (tested : List Booking) : List Booking :=
  tested.filter fun r =>
    seasonEnded e h r.fields.season && !(List.range 12).any fun t => (h.carriage t).any (·.booking == r.fields.number)

theorem retire_eq (e : Env) (tested : List Booking) (h : Hall) : retire e tested h =
    if retiring e h tested = [] then h
    else nearlyFullTest e (removeBookings e (retiring e h tested)
      (post e .retired (retiring e h tested).length h)) := by
  have unserved (n : Nat) : (h.servedBy n).isNone = !(List.range 12).any fun t => (h.carriage t).any (·.booking == n) := by
    rw [← Option.not_isSome, Hall.servedBy, List.isSome_find?]
    rfl
  simp only [retire, unserved, List.isEmpty_iff]
  rfl

theorem retire_some (e : Env) {tested : List Booking} {h : Hall} (some' : retiring e h tested ≠ []) :
    retire e tested h = nearlyFullTest e (removeBookings e (retiring e h tested)
      (post e .retired (retiring e h tested).length h)) ∧
    (retire e tested h).table.records =
      h.table.records.filter (fun r => !(retiring e h tested).any (·.fields.number == r.fields.number)) ∧
    read (retire e tested h).attention.planning EventKind.retired.bit = some (retiring e h tested).length ∧
    (retire e tested h).calendar.live = h.calendar.live := by
  rw [retire_eq, if_neg some']
  refine ⟨rfl, ?_, ?_, ?_⟩
  · rw [nearlyFullTest_records, removeBookings_records]
    rfl
  · rw [nearlyFullTest_planning _ _ _ (by decide), removeBookings_planning _ _ _ _ (by decide) (by decide) (by decide)]
    exact planning_post_same _ _ _ _
  · rw [nearlyFullTest_calendar, removeBookings_live]
    rfl

/-! ## The minute scan (R49) -/

/-- An occurrence of a booking in the table that has not ended. -/
def lasting (e : Env) (h : Hall) (number day : Nat) : Bool :=
  (h.booking number).any fun b => decide (e.now < endOn b.fields day)

theorem isOver_eq (e : Env) (h : Hall) (number day : Nat) : isOver e h number day = !lasting e h number day := by
  unfold isOver lasting
  cases h.booking number with
  | none => rfl
  | some b => simp only [Option.all_some, Option.any_some, ← decide_not, Nat.not_lt]

theorem hasGroup_groupsOf (cues : List Cue) (g : Group) :
    hasGroup (groupsOf cues) g = cues.any fun c => c.booking == g.booking && c.day == g.day := by
  rw [Bool.eq_iff_iff]
  simp only [hasGroup, List.any_eq_true, Bool.and_eq_true, beq_iff_eq]
  constructor
  · rintro ⟨x, mem, number, day⟩
    obtain ⟨⟨c, own, same, on⟩, -⟩ := (mem_groupsOf cues x).mp mem
    exact ⟨c, own, same.trans number, on.trans day⟩
  · rintro ⟨c, own, number, day⟩
    exact ⟨{ booking := g.booking, day := g.day, made := false
             cues := cues.filter fun c => c.booking == g.booking && c.day == g.day },
      (mem_groupsOf cues _).mpr ⟨⟨c, own, number, day⟩, rfl, rfl⟩, rfl, rfl⟩

/-- A hall without the readmission and resume entries that are over (R49, R168). -/
def pruned (e : Env) (h : Hall) : Hall :=
  { h with
    lookahead := { h.lookahead with readmit := h.lookahead.readmit.filter fun o => lasting e h o.booking o.day }
    resume := h.resume.filter fun r => lasting e h r.booking r.day }

/-- The transmitters with an admissible occurrence that has no cues in the list (R49). -/
def lackingCues (e : Env) (h : Hall) : List Nat :=
  (List.range 12).filter fun t => (admitted e h t).any fun g =>
    !h.lookahead.cues.any fun c => c.booking == g.booking && c.day == g.day

theorem minuteScan_eq (e : Env) (h : Hall) : minuteScan e h =
    if e.clock.status = .unset ∨ e.mode = .configuring ∨ h.matrix.survey ≠ none then h
    else if lackingCues e (pruned e h) = [] then pruned e h else scan e (lackingCues e (pruned e h)) (pruned e h) := by
  have stays : (!admitting e || h.matrix.survey.isSome) = true ↔
      e.clock.status = .unset ∨ e.mode = .configuring ∨ h.matrix.survey ≠ none := by
    simp [admitting, Env.unset, Option.isSome_iff_ne_none, Classical.or_iff_not_imp_left]
  unfold minuteScan
  split
  · next still => rw [if_pos (stays.mp still)]
  · next moving =>
    rw [if_neg (stays.not.mp moving)]
    simp only [isOver_eq, Bool.not_not, List.isEmpty_iff, hasGroup_groupsOf]
    rfl

/-! ## What is handed on (R31 to R35) -/

/-- Settles O31, test by test of a new day and of a minute. -/
theorem advanceHandedOn : Obligations.AdvanceHandedOn := by
  unfold Obligations.AdvanceHandedOn
  refine ⟨fun e h => ⟨rfl, rfl, minuteScan_eq e h⟩, fun e old h => ⟨rfl, ?_, fun m => ?_, rfl⟩,
    fun e oldDay again h => ⟨fun same => ?_, fun other => ?_⟩, fun e h => ⟨rfl, ?_⟩, fun e h => ?_⟩
  · have minute : minuteReached old.value e.clock.value = true ↔
        (e.clock.day * 86400 + e.clock.second) % 60 = 0 ∨
          (old.day * 86400 + old.second) / 60 < (e.clock.day * 86400 + e.clock.second) / 60 := by
      simp only [minuteReached, Bool.or_eq_true, beq_iff_eq, decide_eq_true_eq]
      rfl
    simp only [handOn, minute]
  · have backward : stepScan e old = if e.clock.day * 86400 + e.clock.second ≤ old.day * 86400 + old.second then
        rescanBack e else rescan e := by
      funext h
      unfold stepScan
      split
      · next back => exact (congrFun (if_pos back) h).symm
      · next on => exact (congrFun (if_neg on) h).symm
    simp only [handOn, backward]
  · simp [dayTests, same]
  · simp only [dayTests, if_neg other, unset_iff]
    rfl
  · rfl
  · exact ⟨fun none' => by rw [retire_eq]; exact if_pos none', fun some' => retire_some e some'⟩

end Sys2Proof.Machine
end

section
/-! AMEND, TAKE AMENDMENT and DROP AMENDMENT (R19, R146 to R154): O24 and O54. -/

namespace Sys2Proof.Machine

/-! ## What a frame leaves of each record -/

section Frames

variable {h h' : Hall}

theorem OnlyCues.tx (only : OnlyCues h h') (t : Nat) : h'.tx t = h.tx t := by rw [show h' = _ from only]; rfl
theorem OnlyCues.carriage (only : OnlyCues h h') (t : Nat) : h'.carriage t = h.carriage t := by
  rw [show h' = _ from only]; rfl
theorem OnlyCues.claim (only : OnlyCues h h') (a : Nat) : h'.claim a = h.claim a := by rw [show h' = _ from only]; rfl
theorem OnlyCues.antenna (only : OnlyCues h h') (a : Nat) : h'.antenna a = h.antenna a := by
  rw [show h' = _ from only]; rfl
theorem OnlyCues.monitor (only : OnlyCues h h') (t : Nat) : h'.monitor t = h.monitor t := by
  rw [show h' = _ from only]; rfl
theorem OnlyCues.slotOf (only : OnlyCues h h') (t : Nat) : h'.slotOf t = h.slotOf t := by rw [show h' = _ from only]; rfl
theorem OnlyTable.carriage (only : OnlyTable h h') (t : Nat) : h'.carriage t = h.carriage t := by
  rw [show h' = _ from only]; rfl
theorem OnlyTable.slotOf (only : OnlyTable h h') (t : Nat) : h'.slotOf t = h.slotOf t := by
  rw [show h' = _ from only]; rfl
theorem OnlyEntries.slotOf (only : OnlyEntries h h') (t : Nat) : h'.slotOf t = h.slotOf t := by
  rw [show h' = _ from only]; rfl

end Frames

section RfOff

variable (e : Env) (t : Nat) (h : Hall)

theorem rfOff_carriage (u : Nat) : (rfOff e t h).carriage u = h.carriage u := by rw [rfOff_frame]; rfl
theorem rfOff_claim (a : Nat) : (rfOff e t h).claim a = h.claim a := by rw [rfOff_frame]; rfl
theorem rfOff_antenna (a : Nat) : (rfOff e t h).antenna a = h.antenna a := by rw [rfOff_frame]; rfl
theorem rfOff_monitor (u : Nat) : (rfOff e t h).monitor u = h.monitor u := by rw [rfOff_frame]; rfl

end RfOff

/-- SET POWER changes the transmitters and the orders alone (R103). -/
theorem setPower_frame (e : Env) (t p : Nat) (h : Hall) :
    setPower e t p h = { h with txs := (setPower e t p h).txs, orders := (setPower e t p h).orders } := by
  unfold setPower sendTx
  dsimp only
  repeat' split
  all_goals rfl

theorem mapCarriage_same {h : Hall} {t : Nat} {c : Carriage} (lt : t < Config.rows) (found : h.carriage t = some c)
    (f : Carriage → Carriage) : (h.mapCarriage t f).carriage t = some (f c) := by
  rw [Hall.mapCarriage, carriage_setCarriage_same _ _ _ lt, found]
  rfl

/-! ## Which carriage serves a booking (R146) -/

theorem served_iff (h : Hall) (number t : Nat) (c : Carriage) : h.served number = some (t, c) ↔
    t < 12 ∧ h.carriage t = some c ∧ c.booking = number ∧
      ∀ u, u < t → ∀ d, h.carriage u = some d → d.booking ≠ number := by
  simp only [Hall.served, Hall.servedBy, allRows, Option.bind_eq_some_iff, Option.map_eq_some_iff,
    List.find?_range_eq_some, List.mem_range, Prod.mk.injEq]
  constructor
  · rintro ⟨_, ⟨serves, lt, before⟩, d, found, rfl, rfl⟩
    refine ⟨lt, found, by simpa [found] using serves, fun u less d other => ?_⟩
    simpa [other] using before u less
  · rintro ⟨lt, found, serves, before⟩
    refine ⟨t, ⟨by simp [found, serves], lt, fun u less => ?_⟩, c, found, rfl, rfl⟩
    cases other : h.carriage u with
    | none => rfl
    | some d => simpa using before u less d other

/-- A booking is preparing while its carriage is in its early phases and has not aired (R146). -/
theorem preparing_iff (c : Carriage) : (!c.onTheAir) = true ↔ c.phase.early = true ∧ c.aired = false := by
  simp [Carriage.onTheAir]

/-- The parking fields of R147. -/
theorem parkingChange_iff (old new : Offered) : parkingChange old new = true ↔
    ¬ (new.transmitter = old.transmitter ∧ new.antenna = old.antenna ∧ new.setting = old.setting ∧
      new.frequency = old.frequency ∧ new.start = old.start ∧ new.days = old.days ∧ new.firstDay = old.firstDay ∧
      new.lastDay = old.lastDay ∧ new.season = old.season) := by
  simp only [parkingChange, Bool.or_eq_true, bne_iff_ne, ne_eq, eq_comm (a := old.transmitter),
    eq_comm (a := old.antenna), eq_comm (a := old.setting), eq_comm (a := old.frequency), eq_comm (a := old.start),
    eq_comm (a := old.days), eq_comm (a := old.firstDay), eq_comm (a := old.lastDay), eq_comm (a := old.season)]
  tauto

/-- The first three conditions of R3. -/
theorem carriesDay_iff (entries : List SeasonEntry) (b : Offered) (day : Nat) : carriesDay entries b day = true ↔
    (∃ _ : day % 7 < 7, b.days[day % 7] = true) ∧ liveOn entries day = some b.season ∧
    (∀ f, b.firstDay = some f → f ≤ day) ∧ ∀ l, b.lastDay = some l → day ≤ l := by
  have lt : day % 7 < 7 := Nat.mod_lt _ (by decide)
  simp only [carriesDay, Bool.and_eq_true, all_eq_true_iff, decide_eq_true_eq, beq_iff_eq, and_assoc, exists_prop_of_true lt,
    getElem?_pos b.days (day % 7) lt, Option.getD_some]

/-! ## Records replaced (R19) -/

theorem mapBooking_absent {h : Hall} {n : Nat} (f : Booking → Booking) (none' : h.booking n = none) :
    h.table.records.map (fun r => if r.fields.number = n then f r else r) = h.table.records := by
  refine (List.map_congr_left fun r mem => ?_).trans (List.map_id _)
  exact if_neg (booking_eq_none.mp none' r mem)

theorem mapBooking_records (h : Hall) (n : Nat) (f : Booking → Booking) : (h.mapBooking n f).table.records =
    h.table.records.map fun r => if r.fields.number = n then f r else r := by
  simp only [mapBooking_table, beq_iff_eq]

theorem replaceBooking_records (e : Env) (b : Offered) (h : Hall) : (replaceBooking e b h).table.records =
    h.table.records.map fun r => if r.fields.number = b.number then { r with fields := b, state := .active } else r := by
  unfold replaceBooking
  split
  · next none' => exact (mapBooking_absent _ none').symm
  · dsimp only
    rw [table_of_books (scan_books _ _ _), mapBooking_records]

theorem onlyTable_replaceBooking (e : Env) (b : Offered) (h : Hall) : OnlyTable h (replaceBooking e b h) := by
  unfold replaceBooking
  split
  · rfl
  · have mapped (f : Booking → Booking) : OnlyTable h (h.mapBooking b.number f) := rfl
    exact (mapped _).trans (onlyCues_scan e _ _).onlyTable

/-! ## An amendment on air (R149) -/

theorem amendOnAir_eq (e : Env) (t : Nat) (c : Carriage) (old b : Offered) (h : Hall) :
    let replaced := replaceBooking e b h
    let powered := if b.power = old.power ∨ c.phase = .ending then replaced
      else setPower e t b.power (replaced.mapCarriage t fun d => { d with power := b.power })
    amendOnAir e t c old b h =
      if b.duration = old.duration ∨ c.phase = .ending then powered
      else moveStop e t c.booking c.day (c.start + b.duration * 60)
        (powered.mapCarriage t fun d => { d with stop := c.start + b.duration * 60 }) := by
  simp only [amendOnAir, Bool.or_eq_true, decide_eq_true_eq]

theorem amendOnAir_carriage (e : Env) {t : Nat} {c : Carriage} (old b : Offered) {h : Hall} (lt : t < Config.rows)
    (found : h.carriage t = some c) : (amendOnAir e t c old b h).carriage t = some
      { c with power := if b.power = old.power ∨ c.phase = .ending then c.power else b.power
               stop := if b.duration = old.duration ∨ c.phase = .ending then c.stop else c.start + b.duration * 60 } := by
  have replaced : (replaceBooking e b h).carriage t = some c := ((onlyTable_replaceBooking e b h).carriage t).trans found
  have powered : (if b.power = old.power ∨ c.phase = .ending then replaceBooking e b h
      else setPower e t b.power ((replaceBooking e b h).mapCarriage t fun d => { d with power := b.power })).carriage t =
      some { c with power := if b.power = old.power ∨ c.phase = .ending then c.power else b.power } := by
    split
    · exact replaced
    · rw [setPower_frame]
      exact mapCarriage_same lt replaced _
  rw [amendOnAir_eq]
  generalize (if b.power = old.power ∨ c.phase = .ending then c.power else b.power) = power at powered ⊢
  split
  · exact powered
  · exact ((onlyCues_moveStop e t _ _ _ _).carriage t).trans (mapCarriage_same lt powered _)

theorem moveStop_eq (e : Env) (t number day due : Nat) (h : Hall) : moveStop e t number day due h =
    if ∃ c ∈ h.lookahead.cues, c.booking = number ∧ c.day = day ∧ c.kind = .stop then
      refresh e t (h.mapLookahead fun l => { l with cues := sortBy Cue.before (l.cues.map fun c =>
        if c.booking = number ∧ c.day = day ∧ c.kind = .stop then { c with due := due } else c) })
    else h := by
  simp only [moveStop, Cue.isOf, List.any_eq_true, Bool.and_eq_true, beq_iff_eq, and_assoc]

theorem exec_amend (s : State) (tag : Byte) (b : Offered) (yes : s.takes .planning = true) :
    exec (.amend tag (.fields b)) s =
      match entryCheck s.env s.hall true b, s.hall.booking b.number with
      | some (code, none), _ => answers s .planning 3 tag code
      | some (code, some (number, mark)), _ =>
        .next (s.reply .planning 3 tag (some { result := code, body := .booking number mark }))
      | none, none => answers s .planning 3 tag .unknown
      | none, some old =>
        match s.hall.served b.number with
        | none => takes s .planning 3 tag (replaceBooking s.env b)
        | some (t, c) =>
          if old.state = .withdrawing then answers s .planning 3 tag .busy
          else if c.phase.early = true ∧ c.aired = false then
            takes s .planning 3 tag fun h =>
              let left := abandon s.env t (replaceBooking s.env b h)
              if carriesDay left.calendar.entries b c.day then readmit s.env b.number c.day left else left
          else if (s.hall.slotOf t).isSome = true then answers s .planning 3 tag .busy
          else if (¬ (b.transmitter = old.fields.transmitter ∧ b.antenna = old.fields.antenna ∧
                b.setting = old.fields.setting ∧ b.frequency = old.fields.frequency ∧ b.start = old.fields.start ∧
                b.days = old.fields.days ∧ b.firstDay = old.fields.firstDay ∧ b.lastDay = old.fields.lastDay ∧
                b.season = old.fields.season)) ∨ (s.env.antConfig c.antenna).rating < b.power then
            .next ((s.act fun h => post s.env .amendmentParked b.number (h.setSlot t (some b))).reply .planning 3 tag
              (some (Answer.code .parked)))
          else takes s .planning 3 tag (amendOnAir s.env t c old.fields b) := by
  rcases checked : entryCheck s.env s.hall true b with _ | ⟨code, _ | ⟨number, mark⟩⟩
  · have pass : amendRun b s.env s.hall = amendChecked b s.env s.hall := by rw [amendRun, checked]; rfl
    rcases found : s.hall.booking b.number with _ | old
    · exact changing_refused yes (pass.trans (by simp only [amendChecked, found]))
    · rcases carried : s.hall.served b.number with _ | ⟨t, c⟩
      · exact changing_done yes (pass.trans (by simp only [amendChecked, found, carried]))
      · have served : amendRun b s.env s.hall = amendServed s.env t c old b s.hall :=
          pass.trans (by simp only [amendChecked, found, carried])
        simp only [amendServed, preparing_iff, Bool.or_eq_true, parkingChange_iff, decide_eq_true_eq] at served
        dsimp only
        split
        · next is => exact changing_refused yes (served.trans (if_pos is))
        · next notLeaving =>
          rw [if_neg notLeaving] at served
          split
          · next is => exact changing_done yes (served.trans (if_pos is))
          · next onAir =>
            rw [if_neg onAir] at served
            split
            · next is => exact changing_refused yes (served.trans (if_pos is))
            · next free =>
              rw [if_neg free] at served
              split
              · next is => exact congrArg _ (changing_taken yes (served.trans (if_pos is)))
              · next same => exact changing_done yes (served.trans (if_neg same))
  · exact congrArg _ (changing_answered yes (by rw [amendRun, checked]; rfl))
  · exact congrArg _ (changing_answered yes (by rw [amendRun, checked]; rfl))

/-- Settles O24: AMEND's branches are read off its tests, and an amendment on air rewrites two fields of its carriage. -/
theorem amendTakenByTheCarriage : Obligations.AmendTakenByTheCarriage := by
  unfold Obligations.AmendTakenByTheCarriage
  exact ⟨exec_amend,
    ⟨fun e b h => ⟨replaceBooking_records e b h, onlyTable_replaceBooking e b h⟩, fun e t c old b h lt found =>
      ⟨amendOnAir_carriage e old b lt found, table_of_books (amendOnAir_books e t c old b h)⟩⟩,
    amendOnAir_eq, carriesDay_iff, served_iff, moveStop_eq⟩

/-! ## Parked amendments (R151 to R154) -/

theorem slotOf_setSlot_same (h : Hall) (t : Nat) (p : Option Offered) (lt : t < Config.rows) : (h.setSlot t p).slotOf t = p :=
  read_write_same h.parked t p lt

/-- A parked amendment dropped: its slot free, posted, the season it named tested (R153). -/
theorem dropParked_some {e : Env} {t : Nat} {p : Offered} {h : Hall} (parked : h.slotOf t = some p) :
    dropParked e t h = seasonTest e p.season (post e .amendmentDropped p.number (h.setSlot t none)) := by
  simp only [dropParked, parked]

theorem seasonTest_table (e : Env) (n : Nat) (h : Hall) : (seasonTest e n h).table = h.table := by
  rw [onlyEntries_seasonTest e n h]

theorem seasonTest_attention (e : Env) (n : Nat) (h : Hall) : (seasonTest e n h).attention = h.attention := by
  rw [onlyEntries_seasonTest e n h]

/-- What a parked amendment leaves once applied, but for the season it left (R151, R154). -/
def parkedApplied (e : Env) (t : Nat) (p : Offered) (h : Hall) : Hall :=
  post e .amendmentApplied p.number (replaceBooking e p (h.setSlot t none))

theorem applyParked_entries {e : Env} {t : Nat} {p : Offered} {h : Hall} (parked : h.slotOf t = some p) :
    OnlyEntries (parkedApplied e t p h) (applyParked e t h) := by
  simp only [applyParked, parked]
  cases h.booking p.number with
  | none => rfl
  | some b => exact onlyEntries_seasonTest e _ _

theorem applyParked_some {e : Env} {t : Nat} {p : Offered} {h : Hall} (lt : t < Config.rows)
    (parked : h.slotOf t = some p) : (applyParked e t h).slotOf t = none ∧
    (applyParked e t h).table.records = h.table.records.map (fun r =>
      if r.fields.number = p.number then { r with fields := p, state := .active } else r) ∧
    read (applyParked e t h).attention.planning EventKind.amendmentApplied.bit = some p.number := by
  have entries := applyParked_entries (e := e) parked
  refine ⟨?_, ?_, ?_⟩
  · rw [entries.slotOf]
    exact ((onlyTable_replaceBooking e p _).slotOf t).trans (slotOf_setSlot_same h t none lt)
  · rw [entries]
    exact replaceBooking_records e p _
  · rw [entries]
    exact planning_post_same _ _ _ _

/-! ## Usable columns and claims (R76, R117) -/

theorem usable_iff (e : Env) (h : Hall) (t a : Nat) : usable e h t a = true ↔
    (e.antConfig a).present = true ∧ (h.antenna a).lock = .free ∧ (h.antenna a).suspect = false ∧
    (∀ r, r < 12 → h.xp r a ≠ .stuck) ∧ (∀ u, h.claim a = some u → u = t) ∧
    ∀ r, colRoute h a = some r → r ≠ t → h.carriage r = none ∧ (h.tx r).state ≠ .console ∧ e.rfPresent r = false := by
  have blocked : colBlocked h a = false ↔ ∀ r, r < 12 → h.xp r a ≠ .stuck := by
    simp [colBlocked, allRows]
  have claimed : (h.claim a).any (· != t) = false ↔ ∀ u, h.claim a = some u → u = t := by
    cases h.claim a <;> simp
  have route (r : Nat) : (r == t || !((h.carriage r).isSome || (h.tx r).state == .console || e.rfPresent r)) = true ↔
      (r ≠ t → h.carriage r = none ∧ (h.tx r).state ≠ .console ∧ e.rfPresent r = false) := by
    simp [or_iff_not_imp_left, and_assoc]
  simp only [usable, Bool.and_eq_true, claimable_iff, blocked, claimed, all_eq_true_iff, route, and_assoc]

/-- A claim granted changes the matrix alone (R76). -/
theorem grantClaim_frame (e : Env) (t a : Nat) (h : Hall) :
    grantClaim e t a h = { h with matrix := (grantClaim e t a h).matrix } := by
  unfold grantClaim releaseAny
  split
  · rfl
  · split <;> rfl

theorem grantClaim_claim {e : Env} {t a : Nat} {h : Hall} (lt : a < Config.columns)
    (ok : h.claim a = some t ∨ usable e h t a = true) : (grantClaim e t a h).claim a = some t := by
  by_cases held : h.claim a = some t
  · rw [grantClaim_kept e t a h (Or.inr held)]
    exact held
  · have free : claimAnswer e h t a = none := by
      have := (Bool.and_eq_true _ _ ▸ ok.resolve_left held).1
      rw [claimAnswer, if_neg held]
      exact Option.isNone_iff_eq_none.mp this
    unfold grantClaim
    rw [if_neg (by simp [free, held])]
    exact claim_setClaim_same _ a _ lt

theorem resolveBy_none {e : Env} {ok : Nat → Bool} {b : Offered} (main : ok b.antenna = false)
    (alternate : ∀ a, b.alternate = some a → ok a = false) : resolveBy e ok b = none := by
  unfold resolveBy
  rw [if_neg (by simp [main])]
  split
  · next a eq => exact if_neg (by simp [alternate a eq])
  · rfl

theorem resolveBy_main {e : Env} {ok : Nat → Bool} {b : Offered} (main : ok b.antenna = true) :
    resolveBy e ok b = some (b.antenna, b.setting) := if_pos main

theorem resolveBy_alternate {e : Env} {ok : Nat → Bool} {b : Offered} {a : Nat} (main : ok b.antenna = false)
    (alternate : b.alternate = some a) (fits : ok a = true) :
    resolveBy e ok b = some (a, alternateSetting (e.antConfig a) b.setting) := by
  simp [resolveBy, main, alternate, fits]

/-! ## A re-preparation (R130) -/

/-- A carriage as a re-preparation leaves it (R130). -/
def brokenOff (e : Env) (retune : Bool) (c : Carriage) : Carriage :=
  { c with breakBegan := if c.aired then some e.now else none, routeDone := false, settingDone := false
           tuneDone := c.tuneDone && !retune, phase := .rfDown }

theorem setCarriage_setCarriage (h : Hall) (t : Nat) (c d : Option Carriage) :
    (h.setCarriage t c).setCarriage t d = h.setCarriage t d := by
  simp only [Hall.setCarriage, write_write]

theorem mapCarriage_setMonitor_setTx (h : Hall) (t : Nat) (f : Monitor → Monitor) (g : Tx → Tx)
    (k : Carriage → Carriage) :
    ((h.setMonitor t f).setTx t g).mapCarriage t k = ((h.mapCarriage t k).setMonitor t f).setTx t g := rfl

theorem reprepare_eq {e : Env} {t : Nat} {retune : Bool} {h : Hall} {c : Carriage} (lt : t < Config.rows)
    (found : h.carriage t = some c) : reprepare e t retune h =
      rfOff e t (if (h.tx t).state = .recycling then
        ((h.setCarriage t (some (brokenOff e retune c))).setMonitor t fun m => { m with recycle := none }).setTx t
          fun y => { y with state := .serving }
        else h.setCarriage t (some (brokenOff e retune c))) := by
  have phased (h' : Hall) (d : Carriage) : (h'.setCarriage t (some d)).mapCarriage t (fun c => { c with phase := .rfDown }) =
      h'.setCarriage t (some { d with phase := .rfDown }) := by
    rw [Hall.mapCarriage, carriage_setCarriage_same _ _ _ lt, setCarriage_setCarriage]
    rfl
  have step (d : Carriage) : enterRfDown e t (if (h.tx t).state = .recycling then
        ((h.setCarriage t (some d)).setMonitor t fun m => { m with recycle := none }).setTx t
          fun y => { y with state := .serving }
        else h.setCarriage t (some d)) =
      rfOff e t (if (h.tx t).state = .recycling then
        ((h.setCarriage t (some { d with phase := .rfDown })).setMonitor t fun m => { m with recycle := none }).setTx t
          fun y => { y with state := .serving }
        else h.setCarriage t (some { d with phase := .rfDown })) := by
    unfold enterRfDown
    split
    · rw [mapCarriage_setMonitor_setTx, phased]
    · rw [phased]
  unfold reprepare
  rw [Hall.mapCarriage, found]
  exact step _

/-! ## The occurrence on air continues (R152) -/

section CarryOn

variable {e : Env} {t : Nat} {c : Carriage} {b : Offered} {h : Hall}

/-- A carriage with the fields an amendment brings (R152). -/
def Carriage.amended (c : Carriage) (b : Offered) : Carriage :=
  { c with start := startOn b c.day, stop := endOn b c.day, frequency := b.frequency, power := b.power
           setting := b.setting }

/-- The hall in which the antenna is resolved again: the new fields taken and the STOP moved (R152). -/
def stopMoved (e : Env) (t : Nat) (c : Carriage) (b : Offered) (h : Hall) : Hall :=
  moveStop e t c.booking c.day (endOn b c.day) (h.setCarriage t (some (c.amended b)))

/-- The claim moved and the carriage on its column, SUBSTITUTED posted for the alternate (R129, R152). -/
def columnTaken (e : Env) (t a : Nat) (b : Offered) (settled : Carriage) (h : Hall) : Hall :=
  let claimed := (grantClaim e t a h).setCarriage t (some settled)
  if a = b.antenna then claimed else post e .substituted b.number claimed

theorem columnTaken_tx (a : Nat) (settled : Carriage) : (columnTaken e t a b settled h).tx t = h.tx t := by
  unfold columnTaken
  rw [grantClaim_frame]
  dsimp only
  split <;> rfl

theorem columnTaken_carriage (a : Nat) (settled : Carriage) (lt : t < Config.rows) :
    (columnTaken e t a b settled h).carriage t = some settled := by
  unfold columnTaken
  dsimp only
  split
  · exact carriage_setCarriage_same _ _ _ lt
  · exact carriage_setCarriage_same _ _ _ lt

theorem columnTaken_claim (a : Nat) (settled : Carriage) :
    (columnTaken e t a b settled h).claim a = (grantClaim e t a h).claim a := by
  unfold columnTaken
  dsimp only
  split <;> rfl

/-- Whether a column can be resolved to: the one the carriage claims counts as usable (R152; log 33). -/
def resolves (e : Env) (h : Hall) (t a : Nat) : Bool := h.claim a == some t || usable e h t a

theorem resolves_iff (e : Env) (h : Hall) (t a : Nat) :
    resolves e h t a = true ↔ h.claim a = some t ∨ usable e h t a = true := by
  simp [resolves]

theorem carryOn_none (none' : resolveBy e (resolves e (stopMoved e t c b h) t) b = none) :
    carryOn e t c b h = cutShort e t (c.amended b) (stopMoved e t c b h) := by
  unfold carryOn
  dsimp only
  split
  · rfl
  · next _ _ eq => exact absurd (none'.symm.trans eq) (by simp)

theorem carryOn_some {a : Nat} {x : Setting}
    (some' : resolveBy e (resolves e (stopMoved e t c b h) t) b = some (a, x)) :
    carryOn e t c b h = reprepare e t (b.frequency != c.frequency) (refresh e t
      (columnTaken e t a b { c.amended b with antenna := a, setting := x, substituted := a != b.antenna }
        (stopMoved e t c b h))) := by
  unfold carryOn
  dsimp only
  split
  · next eq => exact absurd (some'.symm.trans eq) (by simp)
  · next _ _ eq =>
    obtain ⟨rfl, rfl⟩ := Prod.mk.inj (Option.some.inj (some'.symm.trans eq))
    rfl

end CarryOn

/-! ## TAKE AMENDMENT and DROP AMENDMENT (R151, R153) -/

theorem continues_iff (e : Env) (h : Hall) (t day : Nat) (b : Offered) : continues e h t day b = true ↔
    b.transmitter = t ∧ carriesDay h.calendar.entries b day = true ∧ startOn b day ≤ e.now ∧ e.now < endOn b day := by
  simp only [continues, Bool.and_eq_true, beq_iff_eq, decide_eq_true_eq, and_assoc]

theorem takeAmendment_eq (e : Env) (t : Nat) (h : Hall) : takeAmendment e t h =
    match (applyParked e t h).carriage t with
    | none => applyParked e t h
    | some c =>
      if c.phase = .ending then applyParked e t h
      else match (applyParked e t h).booking c.booking with
        | none => applyParked e t h
        | some b =>
          if b.fields.transmitter = t ∧ carriesDay (applyParked e t h).calendar.entries b.fields c.day = true ∧
              startOn b.fields c.day ≤ e.now ∧ e.now < endOn b.fields c.day then
            carryOn e t c b.fields (applyParked e t h)
          else enterEnding e t (if c.aired then .cut else .missed)
            (dropCues e t c.booking c.day (applyParked e t h)) := by
  simp only [← continues_iff]
  rfl

/-- A command on the parked amendment of a transmitter: FORMAT out of range, UNKNOWN without one, else taken. -/
theorem changing_parked {s : State} {code : Nat} {tag : Byte} {k : Nat} {run : Nat → Env → Hall → Effect} {f : Hall → Hall}
    (yes : s.takes .console = true) (eq : run k s.env s.hall = if 11 < k then .unchanged .format
      else if s.hall.slotOf k = none then .unchanged .unknown else .done f) :
    .next (frame .console code tag (.fields k) (changing run) s) =
      if 11 < k then answers s .console code tag .format
      else if s.hall.slotOf k = none then answers s .console code tag .unknown
      else takes s .console code tag f := by
  split
  · next is => exact changing_refused yes (eq.trans (if_pos is))
  · next row =>
    rw [if_neg row] at eq
    split
    · next is => exact changing_refused yes (eq.trans (if_pos is))
    · next parked => exact changing_done yes (eq.trans (if_neg parked))

theorem exec_takeAmendment {s : State} (tag : Byte) (k : Nat) (yes : s.takes .console = true) :
    exec (.takeAmendment tag (.fields k)) s =
      if 11 < k then answers s .console 34 tag .format
      else if s.hall.slotOf k = none then answers s .console 34 tag .unknown
      else takes s .console 34 tag (takeAmendment s.env k) := by
  refine changing_parked yes ?_
  simp only [takeAmendmentRun, Option.isNone_iff_eq_none]
  rfl

theorem exec_dropAmendment {s : State} (tag : Byte) (k : Nat) (yes : s.takes .console = true) :
    exec (.dropAmendment tag (.fields k)) s =
      if 11 < k then answers s .console 35 tag .format
      else if s.hall.slotOf k = none then answers s .console 35 tag .unknown
      else takes s .console 35 tag (dropParked s.env k) := by
  refine changing_parked yes ?_
  simp only [dropAmendmentRun, Option.isNone_iff_eq_none]
  rfl

theorem dropParked_facts {e : Env} {t : Nat} {p : Offered} {h : Hall} (lt : t < Config.rows)
    (parked : h.slotOf t = some p) : (dropParked e t h).slotOf t = none ∧ (dropParked e t h).table = h.table ∧
      (dropParked e t h).attention = h.attention.post e.mask .amendmentDropped p.number := by
  rw [dropParked_some parked]
  refine ⟨?_, seasonTest_table _ _ _, seasonTest_attention _ _ _⟩
  rw [(onlyEntries_seasonTest e _ _).slotOf]
  exact slotOf_setSlot_same h t none lt

/-! ## The re-preparation of an occurrence that continues (R130, R152) -/

section CarriedOn

variable {e : Env} {t : Nat} {c : Carriage} {b : Offered} {h : Hall}

theorem stopMoved_tx : (stopMoved e t c b h).tx t = h.tx t :=
  (onlyCues_moveStop e t c.booking c.day (endOn b c.day) (h.setCarriage t (some (c.amended b)))).tx t

/-- The occurrence continues on column `a` with setting `x`: what is broken off, and what is kept (R130, R152). -/
theorem carryOn_resolved {a : Nat} {x : Setting} (lt : t < Config.rows) (column : a < Config.columns)
    (some' : resolveBy e (resolves e (stopMoved e t c b h) t) b = some (a, x))
    (granted : (stopMoved e t c b h).claim a = some t ∨ usable e (stopMoved e t c b h) t a = true) :
    let settled := { c.amended b with antenna := a, setting := x, substituted := a != b.antenna }
    let down := brokenOff e (b.frequency != c.frequency) settled
    let broken := (refresh e t (columnTaken e t a b settled (stopMoved e t c b h))).setCarriage t (some down)
    carryOn e t c b h = rfOff e t (if (h.tx t).state = .recycling then
        (broken.setMonitor t fun m => { m with recycle := none }).setTx t fun y => { y with state := .serving }
      else broken) ∧
    (carryOn e t c b h).carriage t = some down ∧
    (carryOn e t c b h).claim a = some t ∧ ((carryOn e t c b h).tx t).rfEnable = false := by
  intro settled down broken
  have cues := onlyCues_refresh e t (columnTaken e t a b settled (stopMoved e t c b h))
  have found : (refresh e t (columnTaken e t a b settled (stopMoved e t c b h))).carriage t = some settled :=
    (cues.carriage t).trans (columnTaken_carriage a settled lt)
  have same : ((refresh e t (columnTaken e t a b settled (stopMoved e t c b h))).tx t) = h.tx t :=
    (cues.tx t).trans ((columnTaken_tx a settled).trans stopMoved_tx)
  have eq : carryOn e t c b h = rfOff e t (if (h.tx t).state = .recycling then
        (broken.setMonitor t fun m => { m with recycle := none }).setTx t fun y => { y with state := .serving }
      else broken) := by
    rw [carryOn_some some', reprepare_eq lt found, same]
  have carriage : broken.carriage t = some down := carriage_setCarriage_same _ _ _ lt
  have claim : broken.claim a = some t :=
    (cues.claim a).trans ((columnTaken_claim a settled).trans (grantClaim_claim column granted))
  refine ⟨eq, ?_, ?_, ?_⟩
  · rw [eq, rfOff_carriage]
    split
    · exact carriage
    · exact carriage
  · rw [eq, rfOff_claim]
    split
    · exact claim
    · exact claim
  · rw [eq]
    exact rfOff_rfEnable _ _ _ lt

end CarriedOn

theorem bne_eq_decide_ne (m n : Nat) : (m != n) = decide (m ≠ n) := by
  by_cases eq : m = n <;> simp [eq]

theorem not_bne_eq_decide_eq (m n : Nat) : (!(m != n)) = decide (m = n) := by
  by_cases eq : m = n <;> simp [eq]

/-- Settles O54: the occurrence on air is cut short where no column resolves, and re-prepared on the one that does. -/
theorem parkedAmendmentTakenOrDropped : Obligations.ParkedAmendmentTakenOrDropped := by
  unfold Obligations.ParkedAmendmentTakenOrDropped
  refine ⟨carriesDay_iff, usable_iff, fun s tag k yes => ⟨?_, exec_dropAmendment tag k yes⟩,
    fun e t p h lt parked => ⟨dropParked_facts lt parked, applyParked_some lt parked⟩, ?_⟩
  · have branches := funext (takeAmendment_eq s.env k)
    exact branches ▸ exec_takeAmendment tag k yes
  · intro e t c b h lt found kept moved ok
    have no {a : Nat} (bad : ¬ ok a) : resolves e moved t a = false :=
      Bool.eq_false_iff.mpr fun yes => bad ((resolves_iff e moved t a).mp yes)
    have yes {a : Nat} (good : ok a) : resolves e moved t a = true := (resolves_iff e moved t a).mpr good
    refine ⟨fun main alternate => carryOn_none (resolveBy_none (no main) fun a is => no (alternate a is)), ?_⟩
    intro a x column which
    have resolved : resolveBy e (resolves e moved t) b = some (a, x) ∧ ok a := by
      rcases which with ⟨main, rfl, rfl⟩ | ⟨main, is, alternate, rfl⟩
      · exact ⟨resolveBy_main (yes main), main⟩
      · exact ⟨resolveBy_alternate (no main) is (yes alternate), alternate⟩
    have taken := carryOn_resolved (h := h) lt column resolved.1 resolved.2
    rw [bne_eq_decide_ne a b.antenna] at taken
    simp only [brokenOff, not_bne_eq_decide_eq] at taken
    exact taken

end Sys2Proof.Machine
end

section
/-! WITHDRAW, the cues of a record that leaves, and an abandonment (R20, R47, R131, R155, R156): O25. -/

namespace Sys2Proof.Machine

/-! ## Every cue that a scan leaves names a record of the table (R43, R47) -/

theorem booking_isSome_iff (h : Hall) (n : Nat) : (h.booking n).isSome = true ↔
    ∃ r ∈ h.table.records, r.fields.number = n := by
  simp [booking_isSome]

theorem booking_currentCues {h : Hall} {c : Cue} (mem : c ∈ currentCues h) : (h.booking c.booking).isSome = true := by
  obtain ⟨x, -, b, found, rfl⟩ := (mem_currentCues h c).mp mem
  exact Option.isSome_of_eq_some found

theorem mem_groupsOf_cues {cues : List Cue} {g : Group} {c : Cue} (group : g ∈ groupsOf cues) (mem : c ∈ g.cues) :
    c ∈ cues := by
  obtain ⟨-, -, own⟩ := (mem_groupsOf cues g).mp group
  rw [own] at mem
  exact List.mem_of_mem_filter mem

theorem makeGroup_booking {e : Env} {h : Hall} {t : Nat} {pred : Option Item} {i : Item} {said : Said} {c : Cue}
    (mem : c ∈ (makeGroup e h t pred i said).cues) : c.booking = i.booking := by
  unfold makeGroup at mem
  dsimp only at mem
  split at mem
  · simp only [List.mem_cons, List.not_mem_nil, or_false] at mem
    rcases mem with rfl | rfl <;> rfl
  · simp only [List.mem_cons, List.not_mem_nil, or_false] at mem
    rcases mem with rfl | rfl | rfl <;> rfl

/-- The groups made along a prediction are those of its fresh occurrences. -/
theorem mem_walk {e : Env} {h : Hall} {t : Nat} {l : List Item} : ∀ {pred : Option Item} {g : Group},
    g ∈ walk e h t pred l → ∃ i ∈ l, i.fresh = true ∧ ∃ p said, g = makeGroup e h t p i said := by
  induction l with
  | nil => intro pred g mem; cases mem
  | cons i rest ih =>
    intro pred g mem
    have later (mem : g ∈ walk e h t (some i) rest) : ∃ j ∈ i :: rest, j.fresh = true ∧
        ∃ p said, g = makeGroup e h t p j said := by
      obtain ⟨j, inRest, made⟩ := ih mem
      exact ⟨j, List.mem_cons_of_mem _ inRest, made⟩
    unfold walk at mem
    split at mem
    · next fresh =>
      rcases List.mem_cons.mp mem with rfl | mem
      · exact ⟨i, List.mem_cons_self, fresh, _, _, rfl⟩
      · exact later mem
    · exact later mem

theorem fresh_of_mem_sequence {e : Env} {h : Hall} {t : Nat} {i : Item} (mem : i ∈ sequence e h t)
    (fresh : i.fresh = true) : i ∈ freshItems e h t := by
  have running : ∀ {p : Item → Bool}, i ∉ ((h.carriage t).toList.map carriageItem).filter p := by
    intro p mem
    obtain ⟨c, -, rfl⟩ := List.mem_map.mp (List.mem_of_mem_filter mem)
    cases fresh
  have waiting : ∀ {p : Item → Bool}, i ∉ ((h.waitingList t).filterMap fun w => (h.booking w.booking).map fun b =>
      itemOf b.fields w.day false false).filter p := by
    intro p mem
    obtain ⟨w, -, is⟩ := List.mem_filterMap.mp (List.mem_of_mem_filter mem)
    obtain ⟨b, -, rfl⟩ := Option.map_eq_some_iff.mp is
    cases fresh
  rw [sequence_eq] at mem
  dsimp only at mem
  split at mem
  · have mem := (sortBy_perm _ _).mem_iff.mp mem
    exact (List.mem_append.mp mem).resolve_left running
  · rcases List.mem_append.mp mem with mem | mem
    · exact absurd mem fun mem => (List.mem_append.mp mem).elim running waiting
    · exact (sortBy_perm _ _).mem_iff.mp mem

theorem booking_freshItems {e : Env} {h : Hall} {t : Nat} {i : Item} (mem : i ∈ freshItems e h t) :
    (h.booking i.booking).isSome = true := by
  obtain ⟨b, record, d, -, -, -, rfl⟩ := (mem_freshItems e h t i).mp mem
  exact (booking_isSome_iff h _).mpr ⟨b, record, rfl⟩

theorem booking_admitted {e : Env} {h : Hall} {t : Nat} {g : Group} {c : Cue} (group : g ∈ admitted e h t)
    (mem : c ∈ g.cues) : (h.booking c.booking).isSome = true := by
  obtain ⟨i, inSequence, fresh, p, said, rfl⟩ := mem_walk (List.mem_of_mem_filter group)
  rw [makeGroup_booking mem]
  exact booking_freshItems (fresh_of_mem_sequence inSequence fresh)

/-- The groups a scan finds for a transmitter come from the list or from its prediction. -/
theorem mem_groupsFor {e : Env} {h : Hall} {cues : List Cue} {how : Remake} {t : Nat} {g : Group}
    (mem : g ∈ groupsFor e h cues how t) : (∀ c ∈ g.cues, c ∈ cues) ∨ g ∈ admitted e h t := by
  have old {p q : Cue → Bool} (mem : g ∈ groupsOf ((cues.filter p).filter q)) : ∀ c ∈ g.cues, c ∈ cues :=
    fun c own => List.mem_of_mem_filter (List.mem_of_mem_filter (mem_groupsOf_cues mem own))
  unfold groupsFor at mem
  cases how with
  | nothing =>
    dsimp only at mem
    split at mem
    · exact (List.mem_append.mp mem).imp old List.mem_of_mem_filter
    · exact Or.inl (old mem)
  | notDue => exact (List.mem_append.mp mem).imp (fun mem => old (List.mem_of_mem_filter mem)) List.mem_of_mem_filter
  | lacking => exact Or.inr (List.mem_of_mem_filter mem)

theorem mem_placedCues {e : Env} {how : Nat → Remake} {h : Hall} {c : Cue} (mem : c ∈ placedCues e how h) :
    (h.booking c.booking).isSome = true := by
  rcases List.mem_append.mp mem with kept | placed
  · exact booking_currentCues (List.mem_of_mem_filter kept)
  · obtain ⟨g, fits, own⟩ := List.mem_flatMap.mp placed
    have found : g ∈ foundGroups e how h := by
      refine (sortBy_perm Group.before _).mem_iff.mp ?_
      rw [← fit_append (192 - (keptCues how h).length) (sortBy Group.before _)]
      exact List.mem_append_left _ fits
    obtain ⟨t, -, group⟩ := List.mem_flatMap.mp found
    rcases mem_groupsFor group with listed | made
    · exact booking_currentCues (listed c own)
    · exact booking_admitted made own

theorem remake_booking (e : Env) (how : Nat → Remake) {h : Hall} (no : h.matrix.survey = none) {c : Cue}
    (mem : c ∈ (remake e how h).lookahead.cues) : (h.booking c.booking).isSome = true := by
  obtain ⟨d, placed, same⟩ := List.mem_map.mp ((remake_perm e how no).mem_iff.mp (List.mem_map_of_mem mem))
  have number : (plainCue d).booking = (plainCue c).booking := congrArg Cue.booking same
  have listed : (h.booking d.booking).isSome = true := mem_placedCues placed
  rwa [show d.booking = c.booking from number] at listed

/-! ## A record that leaves (R20) -/

theorem removeBooking_some {e : Env} {n : Nat} {h : Hall} {b : Booking} (found : h.booking n = some b) :
    removeBooking e n h = nearlyFullTest e (removeBookings e [b] h) := by
  simp only [removeBooking, found]

theorem booking_number {h : Hall} {n : Nat} {b : Booking} (found : h.booking n = some b) : b.fields.number = n := by
  simpa using List.find?_some found

theorem removeBooking_records (e : Env) (n : Nat) (h : Hall) :
    (removeBooking e n h).table.records = h.table.records.filter fun r => r.fields.number != n := by
  cases found : h.booking n with
  | none =>
    rw [List.filter_eq_self.mpr]
    · simp only [removeBooking, found]
    · exact fun r mem => bne_iff_ne.mpr (booking_eq_none.mp found r mem)
  | some b =>
    rw [removeBooking_some found, nearlyFullTest_records, removeBookings_records]
    simp [booking_number found, bne, Bool.beq_comm (a := n)]

theorem removeBooking_cues {e : Env} {n : Nat} {h : Hall} (no : h.matrix.survey = none)
    (listed : (h.booking n).isSome = true) : ∀ c ∈ (removeBooking e n h).lookahead.cues, c.booking ≠ n := by
  intro c mem same
  obtain ⟨b, found⟩ := Option.isSome_iff_exists.mp listed
  rw [removeBooking_some found, nearlyFullTest_lookahead, removeBookings_lookahead] at mem
  obtain ⟨r, left, number⟩ := (booking_isSome_iff _ _).mp (remake_booking (h := unlisted [b] h) e _ no mem)
  have gone := (List.mem_filter.mp left).2
  simp [booking_number found, number, same] at gone

theorem dropCues_eq (e : Env) (t number day : Nat) (h : Hall) : dropCues e t number day h =
    if ∃ c ∈ h.lookahead.cues, c.booking = number ∧ c.day = day then
      refresh e t (h.mapLookahead fun l =>
        { l with cues := l.cues.filter fun c => !(c.booking == number && c.day == day) })
    else h := by
  simp only [dropCues, Cue.isOf, List.any_eq_true, Bool.and_eq_true, beq_iff_eq]

/-! ## WITHDRAW (R20, R155, R156) -/

theorem exec_withdraw (s : State) (tag : Byte) (w : WithdrawArgs) (yes : s.takes .planning = true) :
    exec (.withdraw tag (.fields w)) s =
      match s.hall.booking w.number with
      | none => answers s .planning 4 tag .unknown
      | some old =>
        match s.hall.served w.number with
        | none => takes s .planning 4 tag (removeBooking s.env w.number)
        | some (t, c) =>
          if c.phase.early = true ∧ c.aired = false then
            takes s .planning 4 tag fun h => removeBooking s.env w.number (abandon s.env t h)
          else if w.now = true then
            takes s .planning 4 tag fun h =>
              removeBooking s.env w.number
                (dropCues s.env t w.number c.day (stopCarriage s.env t c.stop false (dropParked s.env t h)))
          else if old.state = .withdrawing then answers s .planning 4 tag .done
          else takes s .planning 4 tag fun h =>
            refresh s.env old.fields.transmitter
              ((dropParked s.env t h).mapBooking w.number fun b => { b with state := .withdrawing }) := by
  have run := withdrawRun.eq_def w s.env s.hall
  rcases found : s.hall.booking w.number with _ | old
  · exact changing_refused yes (by simpa only [found] using run)
  · rcases carried : s.hall.served w.number with _ | ⟨t, c⟩
    · exact changing_done yes (by simpa only [found, carried] using run)
    · simp only [found, carried, preparing_iff] at run
      dsimp only
      split
      · next preparing => exact changing_done yes (run.trans (if_pos preparing))
      · next onAir =>
        rw [if_neg onAir] at run
        split
        · next now => exact changing_done yes (run.trans (if_pos now))
        · next later =>
          rw [if_neg later] at run
          split
          · next leaving => exact changing_refused yes (run.trans (if_pos leaving))
          · next stays => exact changing_done yes (run.trans (if_neg stays))

/-! ## What a tune withdrawn keeps (R104, R106) -/

section Tunes

variable (e : Env) (t : Nat) (h : Hall) (m : Matrix)

/-- RF enable and the state of a transmitter stand. -/
def SameRf (x y : Tx) : Prop := y.state = x.state ∧ y.rfEnable = x.rfEnable

theorem setTx_sameRf (f : Tx → Tx) (same : ∀ x, SameRf x (f x)) : SameRf (h.tx t) ((h.setTx t f).tx t) := by
  by_cases lt : t < Config.rows
  · rw [tx_setTx_same h t f lt]
    exact same _
  · have out : h.setTx t f = h := by
      unfold Hall.setTx update
      rw [write_out _ _ _ (Nat.le_of_not_lt lt)]
    rw [out]
    exact ⟨rfl, rfl⟩

theorem SameRf.trans {x y z : Tx} (xy : SameRf x y) (yz : SameRf y z) : SameRf x z :=
  ⟨yz.1.trans xy.1, yz.2.trans xy.2⟩

theorem takeTune_sameRf (f : Nat) (who : Requester) : SameRf (h.tx t) ((takeTune e t f who h).tx t) := by
  simp only [takeTune, startTune, tellTuned, sendTx]
  repeat' split
  · exact setTx_sameRf t h _ fun x => ⟨rfl, rfl⟩
  · exact ⟨rfl, rfl⟩
  · exact ⟨rfl, rfl⟩
  · exact setTx_sameRf t h _ fun x => ⟨rfl, rfl⟩
  · exact setTx_sameRf t h _ fun x => ⟨rfl, rfl⟩
  · exact setTx_sameRf t h _ fun x => ⟨rfl, rfl⟩

theorem takePendingTune_sameRf : SameRf (h.tx t) ((takePendingTune e t h).tx t) := by
  have taken := setTx_sameRf t h (fun x => { x with pendingTune := none }) fun x => ⟨rfl, rfl⟩
  simp only [takePendingTune]
  repeat' split
  · exact ⟨rfl, rfl⟩
  · exact taken
  · exact taken.trans (takeTune_sameRf e t _ _ _)

theorem withdrawTune_sameRf : SameRf (h.tx t) ((withdrawTune e t h).tx t) := by
  have kept := setTx_sameRf t h (fun x =>
    { x with pendingTune := x.pendingTune.filter fun p => p.requester != .carriage }) fun x => ⟨rfl, rfl⟩
  simp only [withdrawTune]
  refine kept.trans ?_
  repeat' split
  · exact setTx_sameRf t _ _ fun x => ⟨rfl, rfl⟩
  · next u _ _ _ =>
    exact (setTx_sameRf t _ (fun x => { x with tune := none, tuned := u.origin }) fun x => ⟨rfl, rfl⟩).trans
      (takePendingTune_sameRf e t _)
  · exact ⟨rfl, rfl⟩
  · exact ⟨rfl, rfl⟩

/-- The hall with another matrix: no tune looks at it. -/
def Hall.withMatrix (m : Matrix) (h : Hall) : Hall := { h with matrix := m }

theorem tx_withMatrix : (h.withMatrix m).tx t = h.tx t := rfl

theorem setTx_withMatrix (f : Tx → Tx) : (h.withMatrix m).setTx t f = (h.setTx t f).withMatrix m := rfl

theorem takeTune_withMatrix (f : Nat) (who : Requester) :
    takeTune e t f who (h.withMatrix m) = (takeTune e t f who h).withMatrix m := by
  unfold takeTune startTune tellTuned sendTx
  simp only [apply_ite (Hall.withMatrix m)]
  rfl

theorem takePendingTune_withMatrix : takePendingTune e t (h.withMatrix m) = (takePendingTune e t h).withMatrix m := by
  unfold takePendingTune
  rw [tx_withMatrix]
  split
  · rfl
  · simp only [apply_ite (Hall.withMatrix m), ← takeTune_withMatrix]
    rfl

theorem withdrawTune_withMatrix : withdrawTune e t (h.withMatrix m) = (withdrawTune e t h).withMatrix m := by
  unfold withdrawTune
  simp only [setTx_withMatrix, tx_withMatrix]
  split
  · simp only [apply_ite (Hall.withMatrix m), ← takePendingTune_withMatrix]
  · rfl

end Tunes

/-! ## A claim released (R77) -/

section Release

variable {t : Nat} {h : Hall}

theorem claimOf_eq_some {a : Nat} : claimOf h t = some a ↔
    a < 25 ∧ h.claim a = some t ∧ ∀ b, b < a → h.claim b ≠ some t := by
  simp only [claimOf, allCols, List.find?_range_eq_some, List.mem_range, beq_iff_eq, Bool.not_eq_true', beq_eq_false_iff_ne]
  tauto

theorem claimOf_eq_none : claimOf h t = none ↔ ∀ a, a < 25 → h.claim a ≠ some t := by
  simp [claimOf, allCols]

theorem releaseAny_withMatrix (t : Nat) (h : Hall) : releaseAny t h = h.withMatrix (releaseAny t h).matrix := by
  unfold releaseAny
  split <;> rfl

theorem releaseClaim_claim_same {a : Nat} (lt : a < Config.columns) : (releaseClaim t a h).claim a = none :=
  claim_setClaim_same h a none lt

theorem releaseClaim_claim_ne {a b : Nat} (ne : b ≠ a) : (releaseClaim t a h).claim b = h.claim b :=
  claim_setClaim_ne h a b none ne

theorem releaseClaim_wanted {a : Nat} (lt : a < Config.columns) : ((releaseClaim t a h).antenna a).wanted = none :=
  congrArg Antenna.wanted (antenna_setAntenna_same (withdrawRoute t (h.setClaim a none)) a _ lt)

/-- A transmitter that claims one column at most claims none once its claim is released. -/
theorem releaseAny_claim {a : Nat} (one : ∀ a b, h.claim a = some t → h.claim b = some t → a = b) (lt : a < 25) :
    (releaseAny t h).claim a ≠ some t := by
  unfold releaseAny
  cases held : claimOf h t with
  | none => exact claimOf_eq_none.mp held a lt
  | some b =>
    obtain ⟨column, claimed, -⟩ := claimOf_eq_some.mp held
    by_cases same : a = b
    · subst same
      simp [releaseClaim_claim_same column]
    · dsimp only
      rw [releaseClaim_claim_ne same]
      exact fun other => same (one a b other claimed)

/-- The column that a transmitter claimed alone is free and waits for no setting (R77). -/
theorem releaseAny_freed {a : Nat} (one : ∀ a b, h.claim a = some t → h.claim b = some t → a = b) (lt : a < 25)
    (claimed : h.claim a = some t) :
    (releaseAny t h).claim a = none ∧ ((releaseAny t h).antenna a).wanted = none := by
  have held : claimOf h t = some a := by
    cases held : claimOf h t with
    | none => exact absurd claimed (claimOf_eq_none.mp held a lt)
    | some b => exact congrArg some (one b a (claimOf_eq_some.mp held).2.1 claimed)
  simp only [releaseAny, held]
  exact ⟨releaseClaim_claim_same lt, releaseClaim_wanted lt⟩

end Release

/-! ## A carriage leaves its transmitter (R127, R131) -/

section Detach

variable (e : Env) {t : Nat} (h : Hall)

/-- The monitor's part of a transmitter that serves nothing (R144). -/
def Monitor.cleared (m : Monitor) : Monitor :=
  { m with tripCount := 0, tripRun := 0, warnRun := 0, recycle := none, cleanRun := none, window := []
           tripAntenna := none }

/-- The state of a transmitter whose carriage has left it (R95). -/
def Tx.stateUnserved (x : Tx) : TxState := if x.state = .held ∨ x.state = .console then x.state else .idle

theorem detach_frame (t : Nat) : detach e t h = { h with
    matrix := (releaseAny t h).matrix, txs := (detach e t h).txs, orders := (detach e t h).orders
    agenda := (detach e t h).agenda, carriages := (h.setCarriage t none).carriages
    keyAgain := (detach e t h).keyAgain, monitors := (h.setMonitor t Monitor.cleared).monitors } := by
  unfold detach
  dsimp only
  rw [withdrawTune_frame, releaseAny_withMatrix]
  rfl

theorem detach_tx (lt : t < Config.rows) : (detach e t h).tx t =
    { (withdrawTune e t h).tx t with state := ((withdrawTune e t h).tx t).stateUnserved } := by
  have same : (withdrawTune e t (releaseAny t h)).tx t = (withdrawTune e t h).tx t := by
    rw [releaseAny_withMatrix, withdrawTune_withMatrix]
    rfl
  unfold detach
  dsimp only
  rw [← same]
  exact tx_setTx_same _ t _ lt

end Detach

/-! ## An abandonment (R131) -/

section Abandon

variable (e : Env) {t : Nat} (c : Carriage) (h : Hall)

theorem dropParked_frame (t : Nat) : dropParked e t h = { h with
    parked := (dropParked e t h).parked, attention := (dropParked e t h).attention
    calendar := (dropParked e t h).calendar } := by
  cases parked : h.slotOf t with
  | none => simp only [dropParked, parked]
  | some p =>
    rw [dropParked_some parked, onlyEntries_seasonTest]
    rfl

/-- The hall with the parked amendment dropped and RF OFF asked for where RF could be on (R131). -/
def silenced (t : Nat) : Hall :=
  if (h.tx t).rfEnable = true ∨ e.rfPresent t = true then rfOff e t (dropParked e t h) else dropParked e t h

theorem silenced_frame (t : Nat) : silenced e h t = { h with
    parked := (silenced e h t).parked, attention := (silenced e h t).attention
    calendar := (silenced e h t).calendar, txs := (silenced e h t).txs
    orders := (silenced e h t).orders, agenda := (silenced e h t).agenda } := by
  unfold silenced
  split
  · rw [rfOff_frame, dropParked_frame]
  · rw [dropParked_frame]

theorem dropParked_tx (t : Nat) : (dropParked e t h).tx t = h.tx t := by
  rw [dropParked_frame]
  rfl

theorem rfOff_state (lt : t < Config.rows) : ((rfOff e t h).tx t).state = (h.tx t).state := by
  unfold rfOff sendTx
  dsimp only
  repeat' split
  all_goals simp [Hall.tx, raise, send, Hall.setTx, read_update_same, lt]

theorem silenced_rfEnable (lt : t < Config.rows) : ((silenced e h t).tx t).rfEnable = false := by
  unfold silenced
  split
  · exact rfOff_rfEnable e t _ lt
  · next dark =>
    rw [dropParked_tx]
    exact Bool.eq_false_iff.mpr fun on => dark (Or.inl on)

theorem silenced_state (lt : t < Config.rows) : ((silenced e h t).tx t).state = (h.tx t).state := by
  unfold silenced
  split
  · rw [rfOff_state e _ lt, dropParked_tx]
  · rw [dropParked_tx]

/-- The hall of an abandonment before its waiting list is reached (R131). -/
def abandoned (t : Nat) : Hall := refresh e t (dropCues e t c.booking c.day (detach e t (silenced e h t)))

theorem onlyCues_abandoned (t : Nat) : OnlyCues (detach e t (silenced e h t)) (abandoned e c h t) :=
  (onlyCues_dropCues e t _ _ _).trans (onlyCues_refresh e t _)

theorem abandon_some {c : Carriage} (found : h.carriage t = some c) :
    abandon e t h = reachWaiting e t (abandoned e c h t) := by
  have live : rowLive e (dropParked e t h) t = true ↔ (h.tx t).rfEnable = true ∨ e.rfPresent t = true := by
    rw [rowLive, dropParked_tx, Bool.or_eq_true]
  simp only [abandon, found, live]
  rfl

theorem abandoned_tx (lt : t < Config.rows) : (abandoned e c h t).tx t =
    { (withdrawTune e t (silenced e h t)).tx t with state := (h.tx t).stateUnserved } := by
  rw [(onlyCues_abandoned e c h t).tx, detach_tx e _ lt, Tx.stateUnserved,
    (withdrawTune_sameRf e t (silenced e h t)).1, silenced_state e h lt]
  rfl

theorem abandoned_rfEnable (lt : t < Config.rows) : ((abandoned e c h t).tx t).rfEnable = false := by
  rw [abandoned_tx e c h lt]
  exact (withdrawTune_sameRf e t (silenced e h t)).2.trans (silenced_rfEnable e h lt)

/-- What an abandonment leaves of the carriages, the matrix, the table and the monitor (R77, R131, R144). -/
theorem abandoned_frame (t : Nat) : abandoned e c h t = { abandoned e c h t with
    carriages := (h.setCarriage t none).carriages, matrix := (releaseAny t h).matrix, table := h.table
    monitors := (h.setMonitor t Monitor.cleared).monitors } := by
  have claims : claimOf (silenced e h t) t = claimOf h t := by
    rw [silenced_frame]
    rfl
  have released : (releaseAny t (silenced e h t)).matrix = (releaseAny t h).matrix := by
    unfold releaseAny
    rw [claims]
    split
    · rw [silenced_frame]
      rfl
    · rw [silenced_frame]
  rw [show abandoned e c h t = _ from onlyCues_abandoned e c h t, detach_frame, released, silenced_frame]
  rfl

end Abandon

/-- Settles O25: a scan leaves cues of records in the table alone, and an abandonment is RF OFF, the carriage's release
and its cues dropped. -/
theorem withdrawTakenByTheCarriage : Obligations.WithdrawTakenByTheCarriage := by
  unfold Obligations.WithdrawTakenByTheCarriage
  refine ⟨exec_withdraw, fun e n h => ⟨removeBooking_records e n h, removeBooking_cues⟩, dropCues_eq, ?_⟩
  intro e t c h lt found dropped off left
  have frame := abandoned_frame e c h t
  refine ⟨abandon_some e h found, ?_, fun u ne => ?_, fun one => ?_, fun one a column claimed => ?_, ?_,
    abandoned_rfEnable e c h lt, abandoned_tx e c h lt, ?_, ?_⟩
  · exact (congrArg (Hall.carriage · t) frame).trans (carriage_setCarriage_same h t none lt)
  · exact (congrArg (Hall.carriage · u) frame).trans (carriage_setCarriage_ne h t u none ne)
  · exact claimOf_eq_none.mpr fun a column claimed =>
      releaseAny_claim one column ((congrArg (Hall.claim · a) frame).symm.trans claimed)
  · obtain ⟨free, settled⟩ := releaseAny_freed one column claimed
    exact ⟨(congrArg (Hall.claim · a) frame).trans free,
      (congrArg (fun x => (Hall.antenna x a).wanted) frame).trans settled⟩
  · exact congrArg (·.table) frame
  · exact congrArg Tx.state (abandoned_tx e c h lt)
  · exact (congrArg (Hall.monitor · t) frame).trans (monitor_setMonitor_same h t Monitor.cleared lt)

end Sys2Proof.Machine
end

section
/-! The table and the calendar at a warm restart (R4, R24, R40, R179 step 5): what O57 says of the records that stay. -/

namespace Sys2Proof.Machine

/-! ## Records taken out by number (R4) -/

/-- Where numbers are distinct, taking out the numbers of some records takes out those records. -/
theorem filter_unlisted {l : List Booking} (distinct : (l.map (·.fields.number)).Pairwise (· < ·)) (q : Booking → Bool) :
    l.filter (fun r => !(l.filter q).any (·.fields.number == r.fields.number)) = l.filter (!q ·) := by
  have inj : ∀ r ∈ l, ∀ x ∈ l, x.fields.number = r.fields.number → x = r := by
    have nodup : (l.map (·.fields.number)).Nodup := distinct.imp fun less => Nat.ne_of_lt less
    exact fun r mem x other same => List.inj_on_of_nodup_map nodup other mem same
  refine List.filter_congr fun r mem => congrArg _ ?_
  rw [Bool.eq_iff_iff]
  simp only [List.any_eq_true, List.mem_filter, beq_iff_eq]
  constructor
  · rintro ⟨x, ⟨other, is⟩, same⟩
    exact inj r mem x other same ▸ is
  · exact fun is => ⟨r, ⟨mem, is⟩, rfl⟩

theorem removeBookings_filter {e : Env} {h : Hall} (distinct : (h.table.records.map (·.fields.number)).Pairwise (· < ·))
    (q : Booking → Bool) :
    (removeBookings e (h.table.records.filter q) h).table.records = h.table.records.filter (!q ·) := by
  rw [removeBookings_records]
  exact filter_unlisted distinct q

theorem mem_removeBookings {e : Env} {gone : List Booking} {h : Hall} {r : Booking}
    (mem : r ∈ (removeBookings e gone h).table.records) : r ∈ h.table.records ∧ r ∉ gone := by
  rw [removeBookings_records, List.mem_filter] at mem
  obtain ⟨old, left⟩ := mem
  refine ⟨old, fun listed => ?_⟩
  rw [List.any_eq_true.mpr ⟨r, listed, by simp⟩] at left
  cases left

/-! ## Seasons named by the records that stay (R36, R40) -/

/-- The calendar without some seasons that have ended and that no record left in the table names. -/
structure Trimmed (e : Env) (h h' : Hall) : Prop where
  unparked : ∀ t, h'.slotOf t = none
  entries : ∃ p : SeasonEntry → Bool, h'.calendar.entries = h.calendar.entries.filter p ∧
    ∀ x ∈ h.calendar.entries,
      seasonEnded e h x.id = false ∨ (∃ r ∈ h'.table.records, r.fields.season = x.id) → p x = true

section Trimming

variable {e : Env} {h h' h'' : Hall}

theorem trimmed_refl (unparked : ∀ t, h.slotOf t = none) : Trimmed e h h where
  unparked := unparked
  entries := ⟨fun _ => true, by simp, fun _ _ _ => rfl⟩

/-- Fewer records beside the same calendar and no parked amendment. -/
theorem Trimmed.of_fewer (trimmed : Trimmed e h h') (slots : ∀ t, h''.slotOf t = h'.slotOf t)
    (calendar : h''.calendar = h'.calendar) (fewer : ∀ r ∈ h''.table.records, r ∈ h'.table.records) :
    Trimmed e h h'' := by
  obtain ⟨unparked, p, entries, kept⟩ := trimmed
  refine ⟨fun t => (slots t).trans (unparked t), p, calendar ▸ entries, fun x mem why => kept x mem ?_⟩
  exact why.imp_right fun ⟨r, mem, names⟩ => ⟨r, fewer r mem, names⟩

theorem removable_iff (n : Nat) : removable e h n = true ↔ seasonEnded e h n = true ∧ namesOf h n = 0 := by
  simp only [removable, Bool.and_eq_true, beq_iff_eq]

theorem namesOf_eq_zero (unparked : ∀ t, h.slotOf t = none) (n : Nat) :
    namesOf h n = 0 ↔ ∀ r ∈ h.table.records, r.fields.season ≠ n := by
  simp [namesOf, unparked]

theorem seasonEnded_iff (n : Nat) : seasonEnded e h n = true ↔ e.unset = false ∧
    ∃ own ∈ h.calendar.entries, own.id = n ∧
      ∃ next ∈ h.calendar.entries, own.firstDay < next.firstDay ∧ next.firstDay ≤ e.clock.day := by
  rw [seasonEnded, Bool.and_eq_true, endedOn_iff, Bool.not_eq_true']

/-- Fewer entries end fewer seasons. -/
theorem Trimmed.ended (trimmed : Trimmed e h h') {n : Nat} (ended : seasonEnded e h' n = true) :
    seasonEnded e h n = true := by
  obtain ⟨-, p, entries, -⟩ := trimmed
  rw [seasonEnded_iff, entries] at ended
  obtain ⟨set, own, mine, is, next, later, after⟩ := ended
  exact (seasonEnded_iff n).mpr ⟨set, own, List.mem_of_mem_filter mine, is, next, List.mem_of_mem_filter later, after⟩

theorem Trimmed.test (trimmed : Trimmed e h h') (n : Nat) : Trimmed e h (seasonTest e n h') := by
  unfold seasonTest
  split
  · next is =>
    obtain ⟨ended, unnamed⟩ := (removable_iff n).mp is
    have past := trimmed.ended ended
    obtain ⟨unparked, p, entries, kept⟩ := trimmed
    refine ⟨unparked, fun x => p x && x.id != n, ?_, fun x mem why => ?_⟩
    · simp only [entries, List.filter_filter, Bool.and_comm]
    · refine Bool.and_eq_true_iff.mpr ⟨kept x mem why, bne_iff_ne.mpr ?_⟩
      rintro rfl
      rcases why with lasts | ⟨r, mem, names⟩
      · exact absurd past (by simp [lasts])
      · exact (namesOf_eq_zero unparked _).mp unnamed r mem names
  · exact trimmed

theorem Trimmed.removed (trimmed : Trimmed e h h') (gone : List Booking) :
    Trimmed e h (removeBookings e gone h') := by
  rw [removeBookings_eq]
  refine foldl_keeps (Trimmed e h) gone _ (fun b _ _ trimmed => trimmed.test _) _ (trimmed.of_fewer ?_ ?_ ?_)
  · exact fun t => (onlyCues_scan e _ (unlisted gone h')).slotOf t
  · rw [calendar_of_books (scan_books e _ (unlisted gone h'))]
    rfl
  · intro r mem
    rw [table_of_books (scan_books e _ (unlisted gone h'))] at mem
    exact List.mem_of_mem_filter mem

/-- The last entry begun has not ended. -/
theorem exists_live (ids : (h.calendar.entries.map (·.id)).Nodup) {x : SeasonEntry} (mem : x ∈ h.calendar.entries)
    (begun : x.firstDay ≤ e.clock.day) : ∃ m ∈ h.calendar.entries, x.firstDay ≤ m.firstDay ∧
      m.firstDay ≤ e.clock.day ∧ seasonEnded e h m.id = false := by
  have listed : x ∈ h.calendar.entries.filter (·.firstDay ≤ e.clock.day) := List.mem_filter.mpr ⟨mem, by simpa using begun⟩
  cases greatest : (h.calendar.entries.filter (·.firstDay ≤ e.clock.day)).argmax (·.firstDay) with
  | none => rw [List.argmax_eq_none.mp greatest] at listed; cases listed
  | some m =>
    obtain ⟨entry, started⟩ := List.mem_filter.mp (List.argmax_mem greatest)
    have upper {y : SeasonEntry} (mem : y ∈ h.calendar.entries) (begun : y.firstDay ≤ e.clock.day) :
        y.firstDay ≤ m.firstDay :=
      List.le_of_mem_argmax (List.mem_filter.mpr ⟨mem, by simpa using begun⟩) greatest
    refine ⟨m, entry, upper mem begun, by simpa using started, Bool.eq_false_iff.mpr fun ended => ?_⟩
    obtain ⟨-, own, mine, same, next, later, after, first⟩ := (seasonEnded_iff _).mp ended
    have is : own = m := List.inj_on_of_nodup_map ids mine entry same
    exact absurd (upper later first) (Nat.not_le.mpr (is ▸ after))

/-- The season of a record that stays has ended exactly where it had before the calendar was trimmed. -/
theorem Trimmed.ended_named (trimmed : Trimmed e h h') (ids : (h.calendar.entries.map (·.id)).Nodup) {r : Booking}
    (mem : r ∈ h'.table.records) : seasonEnded e h' r.fields.season = seasonEnded e h r.fields.season := by
  refine Bool.eq_iff_iff.mpr ⟨trimmed.ended, fun ended => ?_⟩
  obtain ⟨set, own, mine, is, next, later, after, first⟩ := (seasonEnded_iff _).mp ended
  obtain ⟨m, entry, le, begun, lasts⟩ := exists_live ids later first
  obtain ⟨-, p, entries, kept⟩ := trimmed
  rw [seasonEnded_iff, entries]
  exact ⟨set, own, List.mem_filter.mpr ⟨mine, kept own mine (Or.inr ⟨r, mem, is.symm⟩)⟩, is, m,
    List.mem_filter.mpr ⟨entry, kept m entry (Or.inl lasts)⟩, Nat.lt_of_lt_of_le after le, begun⟩

/-- Once no record names a season that has ended, the calendar's removal test leaves those that last (R40). -/
theorem Trimmed.tested (trimmed : Trimmed e h h') (ids : (h.calendar.entries.map (·.id)).Nodup)
    (lasting : ∀ r ∈ h'.table.records, seasonEnded e h r.fields.season = false) :
    (calendarTest e h').calendar.entries = h.calendar.entries.filter fun x => !seasonEnded e h x.id := by
  have older {n : Nat} : seasonEnded e h' n = true → seasonEnded e h n = true := trimmed.ended
  obtain ⟨unparked, p, entries, kept⟩ := trimmed
  unfold calendarTest
  simp only [entries, List.filter_filter]
  refine List.filter_congr fun x mem => ?_
  cases ended : seasonEnded e h x.id with
  | false =>
    have stays : removable e h' x.id = false := Bool.eq_false_iff.mpr fun gone => by
      have := older ((removable_iff x.id).mp gone).1
      simp [ended] at this
    simp [stays, kept x mem (Or.inl ended)]
  | true =>
    cases still : p x with
    | false => simp
    | true =>
      have unnamed : namesOf h' x.id = 0 := (namesOf_eq_zero unparked _).mpr fun r mem names => by
        have := lasting r mem
        simp [names, ended] at this
      obtain ⟨set, own, mine, is, next, later, after, first⟩ := (seasonEnded_iff _).mp ended
      obtain ⟨m, entry, le, begun, lasts⟩ := exists_live ids later first
      have same : own = x := List.inj_on_of_nodup_map ids mine mem is
      have past : seasonEnded e h' x.id = true := by
        rw [seasonEnded_iff, entries]
        exact ⟨set, x, List.mem_filter.mpr ⟨mem, still⟩, rfl, m, List.mem_filter.mpr ⟨entry, kept m entry (Or.inl lasts)⟩,
          Nat.lt_of_lt_of_le (same ▸ after) le, begun⟩
      simp [(removable_iff x.id).mpr ⟨past, unnamed⟩]

end Trimming

/-! ## The table and the calendar at a warm restart (R179 step 5) -/

section RestartTable

variable (e : Env) (h : Hall)

/-- The hall without its WITHDRAWING records. -/
def activeOnly : Hall := removeBookings e (h.table.records.filter (·.state == .withdrawing)) h

/-- The records whose season has ended. -/
def pastRecords : List Booking := h.table.records.filter fun r => seasonEnded e h r.fields.season

/-- The hall without the records whose season has ended (R24). -/
def unretired : Hall :=
  if (pastRecords e h).isEmpty then h
  else removeBookings e (pastRecords e h) (post e .retired (pastRecords e h).length h)

/-- The hall with the nearly-full arming found anew (R5). -/
def armedAnew : Hall := { h with table := { h.table with
  armed := e.config.hall.nearlyFull < Config.tableCapacity - h.table.records.length } }

theorem restartTable_eq : restartTable e h =
    armedAnew e (if e.unset then activeOnly e h else calendarTest e (unretired e (activeOnly e h))) := by
  unfold restartTable
  dsimp only
  split <;> rfl

theorem unretired_mem {r : Booking} (mem : r ∈ (unretired e h).table.records) : r ∈ h.table.records := by
  unfold unretired at mem
  split at mem
  · exact mem
  · exact (mem_removeBookings mem).1

theorem activeOnly_mem {r : Booking} (mem : r ∈ (activeOnly e h).table.records) :
    r ∈ h.table.records ∧ r.state = .active := by
  obtain ⟨old, stays⟩ := mem_removeBookings mem
  refine ⟨old, ?_⟩
  cases state : r.state with
  | active => rfl
  | withdrawing => exact absurd (List.mem_filter.mpr ⟨old, by simp [state]⟩) stays

/-- Every record left after a restart is an ACTIVE one of the table before it (R179). -/
theorem restartTable_mem {r : Booking} (mem : r ∈ (restartTable e h).table.records) :
    r ∈ h.table.records ∧ r.state = .active := by
  rw [restartTable_eq] at mem
  unfold armedAnew at mem
  dsimp only at mem
  split at mem
  · exact activeOnly_mem e h mem
  · exact activeOnly_mem e h (unretired_mem e _ mem)

theorem restartTable_live : (restartTable e h).calendar.live = h.calendar.live := by
  have active : (activeOnly e h).calendar.live = h.calendar.live := removeBookings_live e _ h
  have lasting : (unretired e (activeOnly e h)).calendar.live = h.calendar.live := by
    unfold unretired
    split
    · exact active
    · exact (removeBookings_live e _ _).trans active
  rw [restartTable_eq]
  unfold armedAnew
  dsimp only
  split
  · exact active
  · exact lasting

section Distinct

variable {e : Env} {h : Hall} (distinct : (h.table.records.map (·.fields.number)).Pairwise (· < ·))

include distinct

theorem activeOnly_records : (activeOnly e h).table.records = h.table.records.filter (·.state != .withdrawing) :=
  removeBookings_filter distinct _

theorem unretired_records : (unretired e h).table.records =
    h.table.records.filter fun r => !seasonEnded e h r.fields.season := by
  unfold unretired
  split
  · next none' =>
    refine (List.filter_eq_self.mpr fun r mem => ?_).symm
    have stays := List.filter_eq_nil_iff.mp (List.isEmpty_iff.mp none') r mem
    simpa using stays
  · exact removeBookings_filter (h := post e .retired (pastRecords e h).length h) distinct _

end Distinct

variable {e : Env} {h : Hall}

theorem trimmed_activeOnly (unparked : ∀ t, h.slotOf t = none) : Trimmed e h (activeOnly e h) :=
  (trimmed_refl unparked).removed _

theorem Trimmed.unretired {h' : Hall} (trimmed : Trimmed e h h') : Trimmed e h (unretired e h') := by
  unfold Machine.unretired
  split
  · exact trimmed
  · exact (trimmed.of_fewer (fun _ => rfl) rfl fun _ mem => mem : Trimmed e h (post e .retired _ h')).removed _

/-- The records and the calendar that a restart leaves (R24, R40, R179 step 5). -/
theorem restartTable_books (unparked : ∀ t, h.slotOf t = none)
    (distinct : (h.table.records.map (·.fields.number)).Pairwise (· < ·)) (ids : (h.calendar.entries.map (·.id)).Nodup) :
    (∀ r, r ∈ (restartTable e h).table.records ↔
      r ∈ h.table.records ∧ r.state = .active ∧ seasonEnded e h r.fields.season = false) ∧
    (restartTable e h).calendar.entries = h.calendar.entries.filter fun x => !seasonEnded e h x.id := by
  have trimmed := trimmed_activeOnly (e := e) unparked
  have active (r : Booking) : r ∈ (activeOnly e h).table.records ↔ r ∈ h.table.records ∧ r.state = .active := by
    rw [activeOnly_records distinct, List.mem_filter]
    cases r.state <;> simp
  rw [restartTable_eq]
  unfold armedAnew
  dsimp only
  split
  · next unset =>
    have lasts (n : Nat) : seasonEnded e h n = false := by simp [seasonEnded, unset]
    obtain ⟨-, p, entries, kept⟩ := trimmed
    refine ⟨fun r => by simp [active, lasts], entries.trans (List.filter_congr fun x mem => ?_)⟩
    rw [kept x mem (Or.inl (lasts x.id)), lasts]
    rfl
  · have distinct' : ((activeOnly e h).table.records.map (·.fields.number)).Pairwise (· < ·) := by
      rw [activeOnly_records distinct]
      exact distinct.sublist (List.filter_sublist.map _)
    have left (r : Booking) : r ∈ (unretired e (activeOnly e h)).table.records ↔
        r ∈ (activeOnly e h).table.records ∧ seasonEnded e h r.fields.season = false := by
      rw [unretired_records distinct', List.mem_filter]
      refine and_congr_right fun mem => ?_
      rw [trimmed.ended_named ids mem, Bool.not_eq_true']
    refine ⟨fun r => (left r).trans (by rw [active, and_assoc]), trimmed.unretired.tested ids fun r mem => ?_⟩
    exact ((left r).mp mem).2

end RestartTable

/-! ## What the tests of the table leave alone (R179 step 5) -/

/-- A hall in its survey, with nothing to readmit or to resume. -/
structure Resting (h : Hall) : Prop where
  surveying : h.matrix.survey ≠ none
  readmit : h.lookahead.readmit = []
  resume : h.resume = []

/-- Only the table, the calendar and the postings differ. -/
def OnlyBooks (h h' : Hall) : Prop := h' = { h with table := h'.table, calendar := h'.calendar, attention := h'.attention }

section Resting

variable {e : Env} {h h' h'' : Hall}

theorem OnlyBooks.trans (one : OnlyBooks h h') (two : OnlyBooks h' h'') : OnlyBooks h h'' := by
  unfold OnlyBooks at *
  rw [two, one]

theorem Resting.of_onlyBooks (rest : Resting h) (only : OnlyBooks h h') : Resting h' := by
  rw [show h' = _ from only]
  exact ⟨rest.surveying, rest.readmit, rest.resume⟩

theorem OnlyEntries.onlyBooks (only : OnlyEntries h h') : OnlyBooks h h' := by
  rw [show h' = _ from only]
  rfl

/-- During the survey no scan follows a removal (R179). -/
theorem onlyBooks_removeBookings (rest : Resting h) (gone : List Booking) : OnlyBooks h (removeBookings e gone h) := by
  have unlisted : OnlyBooks h (unlisted gone h) := by
    unfold OnlyBooks Machine.unlisted
    simp only [rest.readmit, rest.resume, List.filter_nil]
    rw [← rest.readmit, ← rest.resume]
  have scanned : scan e (gone.map (·.fields.transmitter)) (Machine.unlisted gone h) = Machine.unlisted gone h :=
    remake_survey rest.surveying
  exact unlisted.trans (scanned ▸ (onlyEntries_removeBookings e gone h).onlyBooks)

theorem onlyBooks_unretired (rest : Resting h) : OnlyBooks h (unretired e h) := by
  unfold unretired
  split
  · rfl
  · have posted : OnlyBooks h (post e .retired (pastRecords e h).length h) := rfl
    exact posted.trans (onlyBooks_removeBookings (rest.of_onlyBooks posted) _)

theorem onlyBooks_restartTable (rest : Resting h) : OnlyBooks h (restartTable e h) := by
  have active : OnlyBooks h (activeOnly e h) := onlyBooks_removeBookings rest _
  have armed (h' : Hall) : OnlyBooks h' (armedAnew e h') := rfl
  have tested (h' : Hall) : OnlyBooks h' (calendarTest e h') := rfl
  rw [restartTable_eq]
  split
  · exact active.trans (armed _)
  · exact ((active.trans (onlyBooks_unretired (rest.of_onlyBooks active))).trans (tested _)).trans (armed _)

end Resting

end Sys2Proof.Machine
end

section
/-! Start-ups and the retention domain (R176 to R179): O57. -/

namespace Sys2Proof.Machine

/-! ## One change for each number of a list -/

section EachNumber

variable {k : Nat} {f : Nat → Hall → Hall}

theorem forEach_cons (f : Nat → Hall → Hall) (i : Nat) (l : List Nat) (h : Hall) :
    forEach (i :: l) f h = forEach l f (f i h) := rfl

/-- What one number of the list brings about and no other undoes holds at the end. -/
theorem forEach_brings (P : Hall → Prop) {l : List Nat} (mem : k ∈ l) (brings : ∀ h, P (f k h))
    (keeps : ∀ i h, P h → P (f i h)) (h : Hall) : P (forEach l f h) := by
  induction l generalizing h with
  | nil => cases mem
  | cons i rest ih =>
    rw [forEach_cons]
    rcases List.mem_cons.mp mem with rfl | later
    · exact forEach_keeps P rest f (fun j _ => keeps j) _ (brings h)
    · exact ih later _

theorem forEach_tx_other {l : List Nat} (other : ∀ i h, k ≠ i → (f i h).tx k = h.tx k) (out : k ∉ l) (h : Hall) :
    (forEach l f h).tx k = h.tx k :=
  forEach_keeps (fun h' => h'.tx k = h.tx k) l f
    (fun i mem _ same => (other i _ fun is => out (is ▸ mem)).trans same) h rfl

/-- A transmitter is changed by its own turn alone. -/
theorem forEach_tx {l : List Nat} (other : ∀ i h, k ≠ i → (f i h).tx k = h.tx k) (once : l.Nodup) (mem : k ∈ l)
    (h : Hall) : ∃ h', h'.tx k = h.tx k ∧ (forEach l f h).tx k = (f k h').tx k := by
  induction l generalizing h with
  | nil => cases mem
  | cons i rest ih =>
    obtain ⟨out, once⟩ := List.nodup_cons.mp once
    rw [forEach_cons]
    by_cases first : k = i
    · subst first
      exact ⟨h, rfl, forEach_tx_other other out _⟩
    · obtain ⟨h', before, after⟩ := ih once ((List.mem_cons.mp mem).resolve_left first) (f i h)
      exact ⟨h', before.trans (other i h first), after⟩

theorem mem_allRows : k ∈ allRows ↔ k < 12 := List.mem_range

theorem allRows_nodup : allRows.Nodup := List.nodup_range

theorem mem_allCols : k ∈ allCols ↔ k < 25 := List.mem_range

/-- A table of which every entry chosen is written reads as it was written. -/
theorem read_foldl_write {α : Type} [Inhabited α] {n : Nat} {l : List Nat} (c : Nat → Bool) (g : Nat → α) (mem : k ∈ l)
    (chosen : c k = true) (lt : k < n) (v : Vector α n) :
    read (l.foldl (fun v i => if c i then write v i (g i) else v) v) k = g k := by
  have later (l : List Nat) (v : Vector α n) (is : read v k = g k) :
      read (l.foldl (fun v i => if c i then write v i (g i) else v) v) k = g k := by
    induction l generalizing v with
    | nil => exact is
    | cons i rest ih =>
      refine ih _ ?_
      dsimp only
      split
      · by_cases same : k = i
        · subst same
          exact read_write_same v k _ lt
        · exact (read_write_ne v i k _ same).trans is
      · exact is
  induction l generalizing v with
  | nil => cases mem
  | cons i rest ih =>
    rcases List.mem_cons.mp mem with rfl | mem
    · refine later rest _ ?_
      dsimp only
      rw [if_pos chosen]
      exact read_write_same v k _ lt
    · exact ih mem _

theorem read_replicate_default {α : Type} [Inhabited α] (n i : Nat) :
    read (Vector.replicate n (default : α)) i = default := by
  by_cases lt : i < n
  · exact read_replicate i default lt
  · exact read_out _ i (Nat.le_of_not_lt lt)

end EachNumber

/-! ## RF enable withdrawn on every line (R177) -/

theorem withdrawAll_tx {k : Nat} (lt : k < 12) (h : Hall) : (withdrawAll h).tx k = { h.tx k with rfEnable := false } := by
  obtain ⟨h', before, after⟩ := forEach_tx (f := fun t h => h.setTx t fun x => { x with rfEnable := false })
    (fun i h ne => tx_setTx_ne h i k _ ne) allRows_nodup (mem_allRows.mpr lt) h
  rw [withdrawAll, after, tx_setTx_same _ _ _ lt, before]

theorem withdrawAll_frame (h : Hall) : withdrawAll h = { h with txs := (withdrawAll h).txs } :=
  forEach_keeps (fun h' => h' = { h with txs := h'.txs }) allRows _ (fun t _ h' only => by rw [only]; rfl) h rfl

/-! ## The clock after a warm restart (R42, R179) -/

theorem absolute_setTo (c : Clock) (t : Nat) :
    (c.setTo t).day * 86400 + (c.setTo t).second = min t (65535 * 86400 + 86399) := Nat.div_add_mod' _ _

theorem warm_timebase (e : Env) (counted : Nat) : (e.warm counted).timebase = e.timebase := by rw [Env.warm]

theorem warm_config (e : Env) (counted : Nat) : (e.warm counted).config = e.config := by rw [Env.warm]

theorem warm_txConfig (e : Env) (counted k : Nat) : (e.warm counted).txConfig k = e.txConfig k := by
  rw [Env.txConfig, warm_config, Env.txConfig]

theorem warm_unset (e : Env) (counted : Nat) : (e.warm counted).unset = !e.clock.everSet := by
  have status : (e.warm counted).clock.status = if e.clock.everSet then .holdover else .unset := rfl
  rw [Env.unset, status]
  cases e.clock.everSet <;> rfl

theorem warm_rfPresent (e : Env) (counted : Nat) {k : Nat} (lt : k < 12) :
    (e.warm counted).rfPresent k = (e.txConfig k).present := by
  have given := read_foldl_write (n := 12) (fun _ => true)
    (fun t => { rfPresent := (e.txConfig t).present, fault := false, ready := false : Indications })
    (mem_allRows.mpr lt) rfl lt (Vector.replicate _ default)
  exact congrArg Indications.rfPresent given

/-! ## The transmitters at a warm restart (R94, R179 step 2) -/

theorem mem_orders_rfOff {e : Env} {o : Order} (t : Nat) (h : Hall) (mem : o ∈ h.orders) : o ∈ (rfOff e t h).orders := by
  unfold rfOff sendTx
  dsimp only
  repeat' split
  all_goals simp [raise, send, mem]

theorem mem_orders_sendTx {e : Env} {t : Nat} (o : Order) (h : Hall) (present : (e.txConfig t).present = true) :
    o ∈ (sendTx e t o h).orders := by
  simp [sendTx, present, send]

theorem mem_orders_sendTx_old {e : Env} {t : Nat} {o o' : Order} {h : Hall} (mem : o ∈ h.orders) :
    o ∈ (sendTx e t o' h).orders := by
  unfold sendTx
  split
  · exact List.mem_append_left _ mem
  · exact mem

theorem rfOff_sent {e : Env} {t : Nat} (h : Hall) (present : (e.txConfig t).present = true) :
    .rfOff t ∈ (rfOff e t h).orders := by
  unfold rfOff sendTx
  dsimp only
  repeat' split
  all_goals simp_all [raise, send]

/-- RF OFF to a present transmitter with RF present and no watch running starts the RF-down watch (R100). -/
theorem rfOff_tx_live {e : Env} {t : Nat} {h : Hall} (lt : t < 12) (present : (e.txConfig t).present = true)
    (live : e.rfPresent t = true) (idle : (h.tx t).rfDown = none) : (rfOff e t h).tx t =
      { h.tx t with rfEnable := false, rfUp := none, rfOn := none
                    rfDown := some (e.timebase + ((e.txConfig t).rfDown + 5) * 1000) } := by
  have sent (x : Hall) : sendTx e t (.rfOff t) x = send (.rfOff t) x := if_pos present
  have unwatched : ((send (.rfOff t) (h.setTx t fun x => { x with rfEnable := false, rfUp := none, rfOn := none })).tx t).rfDown
      = none := (congrArg Tx.rfDown (tx_setTx_same h t _ lt)).trans idle
  unfold rfOff
  simp only [sent, present, live, unwatched, Bool.not_true, Bool.false_eq_true, if_false, Option.isSome_none]
  refine (tx_setTx_same _ t _ lt).trans ?_
  exact congrArg (fun x : Tx => { x with rfDown := some (e.timebase + ((e.txConfig t).rfDown + 5) * 1000) })
    (tx_setTx_same h t _ lt)

section RestartTxs

variable (e : Env) (h : Hall)

/-- Only transmitters, orders and reports differ. -/
def OnlyRf (h h' : Hall) : Prop := h' = { h with txs := h'.txs, orders := h'.orders, agenda := h'.agenda }

theorem OnlyRf.trans {h h' h'' : Hall} (one : OnlyRf h h') (two : OnlyRf h' h'') : OnlyRf h h'' := by
  unfold OnlyRf at *
  rw [two, one]

theorem onlyRf_sendTx (t : Nat) (o : Order) : OnlyRf h (sendTx e t o h) := by
  unfold sendTx
  split <;> rfl

theorem onlyRf_restartTxs : OnlyRf h (restartTxs e h) := by
  have asked : OnlyRf h (forEach allRows (fun t h => sendTx e t (.statusRequest t) h) h) :=
    forEach_keeps (OnlyRf h) _ _ (fun t _ h' only => only.trans (onlyRf_sendTx e h' t _)) h rfl
  exact forEach_keeps (OnlyRf h) _ _ (fun t _ h' only => only.trans (rfOff_frame e t h')) _ asked

variable {k : Nat} (lt : k < 12) (present : (e.txConfig k).present = true)

include lt present

theorem restartTxs_statusRequest : .statusRequest k ∈ (restartTxs e h).orders := by
  refine forEach_keeps (fun h' => .statusRequest k ∈ h'.orders) _ _ (fun t _ h' mem => mem_orders_rfOff t h' mem) _ ?_
  exact forEach_brings (f := fun t h => sendTx e t (.statusRequest t) h) (fun h' => .statusRequest k ∈ h'.orders)
    (mem_allRows.mpr lt)
    (fun h' => mem_orders_sendTx _ h' present) (fun t h' mem => mem_orders_sendTx_old mem) h

theorem restartTxs_rfOff : .rfOff k ∈ (restartTxs e h).orders :=
  forEach_brings (fun h' => .rfOff k ∈ h'.orders) (mem_allRows.mpr lt) (fun h' => rfOff_sent h' present)
    (fun t h' mem => mem_orders_rfOff t h' mem) _

theorem restartTxs_tx (live : e.rfPresent k = true) (idle : (h.tx k).rfDown = none) : (restartTxs e h).tx k =
    { h.tx k with rfEnable := false, rfUp := none, rfOn := none
                  rfDown := some (e.timebase + ((e.txConfig k).rfDown + 5) * 1000) } := by
  have asked : (forEach allRows (fun t h => sendTx e t (.statusRequest t) h) h).tx k = h.tx k :=
    forEach_keeps (fun h' => h'.tx k = h.tx k) _ _ (fun t _ h' same => by
      unfold sendTx
      split
      · exact same
      · exact same) h rfl
  obtain ⟨h', before, after⟩ := forEach_tx (f := rfOff e) (fun i h ne => rfOff_tx_ne e i k h ne) allRows_nodup
    (mem_allRows.mpr lt) (forEach allRows (fun t h => sendTx e t (.statusRequest t) h) h)
  have same : h'.tx k = h.tx k := before.trans asked
  rw [restartTxs, after, rfOff_tx_live lt present live (same ▸ idle), same]

end RestartTxs

/-! ## The hall of a warm restart (R179) -/

section Warm

variable (e : Env) (h : Hall)

/-- The hall as a warm restart finds it, before its first order. -/
def restarting : Hall :=
  { Hall.cold e.timebase with
    table := h.table
    calendar := h.calendar
    matrix := Matrix.start
      (allCols.foldl (fun v a => write v a (Antenna.start a (h.antenna a).lock (h.antenna a).suspect)) Antenna.coldAll)
      e.timebase true
    txs := allRows.foldl (fun v t => if (e.txConfig t).present then write v t (h.tx t).warm else v)
      (Vector.replicate _ Tx.start)
    attention := { planning := emptySummary, console := emptySummary, alarm := 0 }
    orders := [] }

/-- The hall of a warm restart with its orders sent and the live season found (R179 steps 1 to 4). -/
def ordered : Hall := findLive e (send .survey (restartTxs e (restarting e h)))

theorem warm_eq : Hall.warm e h = post e .restarted 1 (restartTable e (ordered e h)) := rfl

theorem ordered_frame : ordered e h = { restarting e h with
    calendar := (ordered e h).calendar, txs := (restartTxs e (restarting e h)).txs
    orders := (restartTxs e (restarting e h)).orders ++ [.survey], agenda := (ordered e h).agenda } := by
  unfold ordered
  rw [show restartTxs e (restarting e h) = _ from onlyRf_restartTxs e (restarting e h)]
  rfl

theorem ordered_entries : (ordered e h).calendar.entries = h.calendar.entries := by
  unfold ordered
  rw [show restartTxs e (restarting e h) = _ from onlyRf_restartTxs e (restarting e h)]
  rfl

theorem ordered_live : (ordered e h).calendar.live = liveOn h.calendar.entries e.clock.day := by
  unfold ordered
  rw [show restartTxs e (restarting e h) = _ from onlyRf_restartTxs e (restarting e h)]
  rfl

theorem resting_ordered : Resting (ordered e h) := by
  rw [ordered_frame]
  exact ⟨Option.some_ne_none _, rfl, rfl⟩

theorem onlyBooks_warm : OnlyBooks (ordered e h) (Hall.warm e h) :=
  have posted (h' : Hall) : OnlyBooks h' (post e .restarted 1 h') := rfl
  (onlyBooks_restartTable (resting_ordered e h)).trans (posted _)

/-- What a warm restart leaves, but for the books: its start with the orders sent. -/
theorem warm_frame : Hall.warm e h = { restarting e h with
    table := (Hall.warm e h).table, calendar := (Hall.warm e h).calendar, attention := (Hall.warm e h).attention
    txs := (restartTxs e (restarting e h)).txs, orders := (restartTxs e (restarting e h)).orders ++ [.survey]
    agenda := (ordered e h).agenda } := by
  rw [show Hall.warm e h = _ from onlyBooks_warm e h, ordered_frame]

theorem ordered_unparked (t : Nat) : (ordered e h).slotOf t = none := by
  rw [ordered_frame]
  exact read_replicate_default 12 t

theorem ordered_table : (ordered e h).table = h.table := by
  rw [ordered_frame]
  rfl

theorem warm_mem {r : Booking} (mem : r ∈ (Hall.warm e h).table.records) : r ∈ h.table.records ∧ r.state = .active := by
  have left : r ∈ (ordered e h).table.records ∧ r.state = .active := restartTable_mem e (ordered e h) mem
  rwa [ordered_table] at left

theorem warm_antenna {a : Nat} (lt : a < 25) :
    (Hall.warm e h).antenna a = Antenna.start a (h.antenna a).lock (h.antenna a).suspect := by
  rw [warm_frame]
  exact read_foldl_write (fun _ => true) (fun a => Antenna.start a (h.antenna a).lock (h.antenna a).suspect)
    (mem_allCols.mpr lt) rfl lt _

section Present

variable {e : Env} {h : Hall} {k : Nat} (lt : k < 12) (present : (e.txConfig k).present = true)

include lt present

theorem restarting_tx : (restarting e h).tx k = (h.tx k).warm :=
  read_foldl_write (fun t => (e.txConfig t).present) (fun t => (h.tx t).warm) (mem_allRows.mpr lt) present lt _

theorem warm_tx (live : e.rfPresent k = true) : (Hall.warm e h).tx k =
    { (h.tx k).warm with rfDown := some (e.timebase + ((e.txConfig k).rfDown + 5) * 1000) } := by
  have started := restarting_tx (h := h) lt present
  have sent := restartTxs_tx e (restarting e h) lt present live (by rw [started]; rfl)
  rw [warm_frame]
  exact sent.trans (by rw [started]; rfl)

theorem warm_orders : .statusRequest k ∈ (Hall.warm e h).orders ∧ .rfOff k ∈ (Hall.warm e h).orders := by
  rw [warm_frame]
  exact ⟨List.mem_append_left _ (restartTxs_statusRequest e _ lt present),
    List.mem_append_left _ (restartTxs_rfOff e _ lt present)⟩

end Present

/-- The records and the calendar after a warm restart (R24, R40, R179). -/
theorem warm_books (ok : CollectionsOk h) :
    (∀ r, r ∈ (Hall.warm e h).table.records ↔
      r ∈ h.table.records ∧ r.state = .active ∧ seasonEnded e h r.fields.season = false) ∧
    (Hall.warm e h).calendar.entries = h.calendar.entries.filter fun x => !seasonEnded e h x.id := by
  obtain ⟨distinct, -, -, ids, -⟩ := ok
  have books := restartTable_books (e := e) (ordered_unparked e h) (by rwa [ordered_table]) (by rwa [ordered_entries])
  simp only [seasonEnded, ordered_table, ordered_entries] at books
  exact books

end Warm

/-! ## Start-ups (R176 to R179) -/

theorem exec_restartAsserted {s : State} (on : s.power = .running) : ∃ t, exec .restartAsserted s = .next t ∧
    t.power = .halted s.env.timebase ∧ (∀ k, k < 12 → t.hall.tx k = { s.hall.tx k with rfEnable := false }) ∧
    t = { s with power := t.power, hall := { s.hall with txs := t.hall.txs } } := by
  refine ⟨{ s with power := .halted s.env.timebase, hall := withdrawAll s.hall }, ?_, rfl,
    fun k lt => withdrawAll_tx lt s.hall, ?_⟩
  · exact congrArg _ (if_pos on)
  · exact congrArg (fun h => { s with power := .halted s.env.timebase, hall := h }) (withdrawAll_frame s.hall)

theorem exec_mainSupplyLoss {s : State} (on : s.power ≠ .absent) : ∃ t, exec .mainSupplyLoss s = .next t ∧
    t.power = .absent ∧ (∀ k, k < 12 → t.hall.tx k = { s.hall.tx k with rfEnable := false }) ∧
    t = { s with power := t.power, hall := { s.hall with txs := t.hall.txs } } := by
  refine ⟨{ s with power := .absent, hall := withdrawAll s.hall }, ?_, rfl, fun k lt => withdrawAll_tx lt s.hall, ?_⟩
  · exact congrArg _ (if_neg on)
  · exact congrArg (fun h => { s with power := .absent, hall := h }) (withdrawAll_frame s.hall)

theorem exec_restartReleased {s : State} (i : StartInputs) {since : Nat} (halted : s.power = .halted since) :
    exec (.restartReleased i) s = .next (startUp i s) := by
  change execRestartReleased i s = _
  unfold execRestartReleased
  rw [halted]

theorem exec_restartHeld5s {s : State} (address : Nat) {since : Nat} (halted : s.power = .halted since) :
    exec (.restartHeld5s address) s =
      .next (coldStart address { s with env := { s.env with timebase := max s.env.timebase (since + 5000) } }) := by
  change execRestartHeld5s address s = _
  unfold execRestartHeld5s
  rw [halted]
  rfl

theorem warmStart_ended (s : State) (i : StartInputs) (n : Nat) : seasonEnded (s.env.warm i.counted) s.hall n =
    (s.env.clock.everSet && endedOn s.hall.calendar.entries n (warmStart i s).env.clock.day) := by
  rw [seasonEnded, warm_unset, Bool.not_not]
  rfl

theorem warmStart_env (s : State) (i : StartInputs) : (warmStart i s).env = s.env.warm i.counted := by rw [warmStart]

theorem warmStart_hall (s : State) (i : StartInputs) : (warmStart i s).hall = Hall.warm (s.env.warm i.counted) s.hall := by
  rw [warmStart]

theorem warm_present (s : State) (i : StartInputs) {k : Nat} (present : (s.env.txConfig k).present = true) :
    ((s.env.warm i.counted).txConfig k).present = true := by
  rw [warm_txConfig]
  exact present

theorem warmStart_transmitter (s : State) (i : StartInputs) {k : Nat} (lt : k < 12)
    (present : (s.env.txConfig k).present = true) : (warmStart i s).hall.tx k =
      { (s.hall.tx k).warm with rfDown := some (s.env.timebase + ((s.env.txConfig k).rfDown + 5) * 1000) } := by
  have started := warm_tx (h := s.hall) lt (warm_present s i present) ((warm_rfPresent s.env i.counted lt).trans present)
  rw [warm_timebase, warm_txConfig] at started
  rw [warmStart_hall]
  exact started

theorem warmStart_posted (s : State) (i : StartInputs) :
    read (warmStart i s).hall.attention.planning EventKind.restarted.bit = some 1 ∧
    read (warmStart i s).hall.attention.console EventKind.restarted.bit = some 1 := by
  rw [warmStart_hall, warm_eq]
  exact ⟨planning_post_same _ _ _ _, read_write_same _ _ _ (kind_bit_lt _)⟩

/-- Settles O57: a warm restart is its start with the orders sent, and with the table trimmed during the survey. -/
theorem startUpsAndRetention : Obligations.StartUpsAndRetention := by
  unfold Obligations.StartUpsAndRetention
  refine ⟨fun s i off => congrArg _ (if_pos off), fun s i on => congrArg _ (if_neg on),
    fun s i since halted => exec_restartReleased i halted, fun s address since halted => exec_restartHeld5s address halted,
    fun s on => exec_restartAsserted on, fun s on => exec_mainSupplyLoss on, fun s address => rfl, fun s i ok => ?_,
    fun s i => ?_, fun s i => ?_⟩
  · have books := warm_books (s.env.warm i.counted) s.hall ok
    simp only [warmStart_ended] at books
    exact books
  · have frame := warm_frame (s.env.warm i.counted) s.hall
    refine ⟨?_, absolute_setTo s.env.clock _, ?_, ?_, ?_, fun a => ?_, fun k lt present => ?_⟩
    · rw [warmStart_hall, warmStart_env]
      exact (restartTable_live _ _).trans (ordered_live _ _)
    · rw [warmStart_env, warm_timebase]
    · rw [warmStart_hall, frame]
      exact List.mem_append_right _ List.mem_cons_self
    · rw [warmStart_hall, frame, ← warm_timebase s.env i.counted]
      rfl
    · rw [warmStart_hall, frame]
      exact read_replicate_default 25 a
    · obtain ⟨asked, off⟩ := warm_orders (h := s.hall) lt (warm_present s i present)
      rw [warmStart_transmitter s i lt present, warmStart_hall, warmStart_env]
      exact ⟨asked, off, rfl, (warm_rfPresent s.env i.counted lt).trans present, rfl, rfl, fun ne => if_neg ne⟩
  · have frame := warm_frame (s.env.warm i.counted) s.hall
    refine ⟨?_, ?_, ?_, rfl, ?_, ?_, fun k => ?_, fun k lt present => ?_, fun a lt => ?_, fun r mem => ?_, ?_, ?_,
      warmStart_posted s i⟩
    · rw [warmStart_env, warm_config]
    · rw [warmStart_env, Env.warm]
    · rw [warmStart_env, Env.warm]
    · rw [warmStart_env, Env.warm, Clock.warm]
    · rw [warmStart_env, Env.warm, Clock.warm]
    · rw [warmStart_hall, frame]
      exact ⟨read_replicate_default 12 k, read_replicate_default 12 k, read_replicate_default 12 k⟩
    · rw [warmStart_transmitter s i lt present]
      exact ⟨rfl, rfl, fun held => ⟨if_pos held, if_pos held⟩⟩
    · rw [warmStart_hall, warm_antenna _ _ lt]
      exact ⟨rfl, rfl⟩
    · rw [warmStart_hall] at mem
      exact warm_mem _ _ mem
    · rw [warmStart_hall, frame]
      rfl
    · rw [warmStart_hall, frame]
      rfl

end Sys2Proof.Machine
end

section
/-! The internal timebase on an empty queue and the expiries it leaves there (R26, R73): O2. -/

namespace Sys2Proof.Machine

theorem mem_whenDue {now : Nat} {limit : Option Nat} {i j : Instr} :
    j ∈ whenDue now limit i ↔ j = i ∧ limit.any (· ≤ now) = true := by
  unfold whenDue
  split <;> simp_all

theorem mem_txExpiries {now : Nat} {h : Hall} {t : Nat} {i : Instr} : i ∈ txExpiries now h t ↔
    (i = .tuneTimeout t ∧ ((h.tx t).tune.bind (·.ends)).any (· ≤ now) = true) ∨
    (i = .rfUpTimeout t ∧ (h.tx t).rfUp.any (· ≤ now) = true) ∨
    (i = .rfDownTimeout t ∧ (h.tx t).rfDown.any (· ≤ now) = true) ∨
    (i = .recycleTimerExpiry t ∧ (h.monitor t).recycle.any (· ≤ now) = true) ∨
    (i = .cleanRunExpiry t ∧ (h.monitor t).cleanRun.any (· ≤ now) = true) := by
  simp only [txExpiries, List.mem_append, mem_whenDue, or_assoc]

theorem nextAdvance_due {c : Clock} {now : Nat} :
    c.nextAdvance.any (· ≤ now) = true ↔ c.status ≠ .locked ∧ c.lastAdvance + 1000 ≤ now := by
  unfold Clock.nextAdvance
  split <;> simp_all

/-- The moves in the drive slots (R73). -/
theorem exists_move {h : Hall} {P : Slot → Prop} :
    (∃ x ∈ (List.range Config.driveSlots).filterMap fun k => read h.matrix.slots k, P x) ↔
    ∃ k x, k < 4 ∧ read h.matrix.slots k = some x ∧ P x := by
  have slots : Config.driveSlots = 4 := rfl
  simp only [List.mem_filterMap, List.mem_range, slots]
  constructor
  · rintro ⟨x, ⟨k, lt, held⟩, due⟩
    exact ⟨k, x, lt, held, due⟩
  · rintro ⟨k, x, lt, held, due⟩
    exact ⟨x, ⟨k, lt, held⟩, due⟩

/-- What is due on the timebase: each timer that has reached its limit leaves its own expiry (R26). -/
theorem mem_expiries {e : Env} {h : Hall} {i : Instr} : i ∈ expiries e h ↔
    (i = .pulseWatchExpiry ∧ e.clock.watch.any (· ≤ e.timebase) = true) ∨
    (i = .internalAdvance ∧ e.clock.status ≠ .locked ∧ e.clock.lastAdvance + 1000 ≤ e.timebase) ∨
    (i = .surveyLimit ∧ (h.matrix.survey.map (·.limit)).any (· ≤ e.timebase) = true) ∨
    (∃ k x, k < 4 ∧ read h.matrix.slots k = some x ∧ i = .moveTimeout x.move.row x.move.col ∧ x.limit ≤ e.timebase) ∨
    (∃ a < 25, i = .settingTimeout a ∧ ((h.antenna a).change.map (·.limit)).any (· ≤ e.timebase) = true) ∨
    ∃ t < 12, i ∈ txExpiries e.timebase h t := by
  unfold expiries
  simp only [List.mem_append, mem_whenDue, nextAdvance_due, or_assoc, List.mem_flatMap, mem_allRows,
    mem_allCols, exists_move, Option.any_some, decide_eq_true_eq]

section Idle

variable {s : State}

theorem idle_absent (off : s.power = .absent) : idle s = s := by
  unfold idle
  simp only [off]

theorem idle_halted {since : Nat} (halted : s.power = .halted since) : idle s = { s with
    env := { s.env with timebase := s.env.timebase + 1 }
    pending := if since + 5000 ≤ s.env.timebase + 1 then [.restartHeld5s s.links.addressLines] else [] } := by
  have due (b : Nat) (i : Instr) :
      whenDue (s.env.timebase + 1) (some b) i = if b ≤ s.env.timebase + 1 then [i] else [] := by
    simp only [whenDue, Option.any_some, decide_eq_true_eq]
  unfold idle
  simp only [halted, due]

theorem idle_running (on : s.power = .running) : idle s = { s with
    env := { s.env with timebase := s.env.timebase + 1 }
    pending := expiries { s.env with timebase := s.env.timebase + 1 } s.hall } := by
  unfold idle
  simp only [on]

end Idle

/-- Settles O2: each expiry is left by its own timer alone. -/
theorem emptyQueueRunsTheTimebase : Obligations.EmptyQueueRunsTheTimebase := by
  unfold Obligations.EmptyQueueRunsTheTimebase
  intro s empty
  have steps : step s = .next (idle s) := by
    unfold step
    rw [empty]
  refine ⟨idle s, steps, idle_hall s, ?_⟩
  cases power : s.power with
  | absent =>
    rw [idle_absent power]
    exact ⟨rfl, power, fun _ => rfl, fun no => absurd rfl no, nofun, nofun⟩
  | halted since =>
    rw [idle_halted power]
    refine ⟨rfl, power, nofun, fun _ => rfl, nofun, fun since' eq => ?_⟩
    cases eq
    rfl
  | running =>
    rw [idle_running power]
    refine ⟨rfl, power, nofun, fun _ => rfl, fun _ => ?_, nofun⟩
    simp only [mem_expiries, mem_txExpiries]
    refine ⟨?_, ?_, fun r c => ?_, ?_, fun a lt => ?_, fun k lt => ?_⟩
    · simp
    · simp
    · simp only [reduceCtorEq, Instr.moveTimeout.injEq, false_and, false_or, and_false, exists_false, or_false,
        eq_comm (a := r), eq_comm (a := c), and_assoc]
    · simp
    · simp [show a < 25 from lt]
    · simp [show k < 12 from lt]

end Sys2Proof.Machine
end

section
/-! The ranges of the clock, its pending setting, the divisors and the hall address (R25, R32, R181), and what the events
of the clock, the hall lines and the timers leave of the environment and the links: O59, O6. -/

namespace Sys2Proof.Machine

/-! ## The clock (R25, R32) -/

/-- The clock's value and its pending setting are within their ranges (R25, R32). -/
def Clock.InRange (c : Clock) : Prop :=
  c.day ≤ Config.lastDay ∧ c.second < Config.daySeconds ∧ c.setting.all clockValueOk = true

/-- A clock set to a time is held at its last value (R25). -/
theorem setTo_range (c : Clock) (t : Nat) :
    (c.setTo t).day ≤ Config.lastDay ∧ (c.setTo t).second < Config.daySeconds := by
  have held : min t lastSecond ≤ 65535 * 86400 + 86399 := Nat.min_le_right _ _
  constructor
  · show min t lastSecond / 86400 ≤ 65535
    omega
  · exact Nat.mod_lt _ (by decide)

theorem advance_inRange {c : Clock} (n : Nat) (ok : c.InRange) : (c.advance n).1.InRange := by
  unfold Clock.advance
  dsimp only
  split
  · split
    · exact ok
    · exact ⟨(setTo_range c _).1, (setTo_range c _).2, ok.2.2⟩
  · repeat' split
    all_goals exact ⟨(setTo_range c _).1, (setTo_range c _).2, rfl⟩

theorem pulse_inRange {c : Clock} (t : Nat) (ok : c.InRange) : (c.pulse t).1.InRange := by
  unfold Clock.pulse
  split
  · exact ok
  · split
    · exact ok
    · exact advance_inRange _ ok
  · exact advance_inRange _ ok

theorem watchEnds_inRange {c : Clock} (t : Nat) (ok : c.InRange) : (c.watchEnds t).1.InRange := by
  unfold Clock.watchEnds
  split
  · exact advance_inRange _ ok
  · exact ok

theorem tick_inRange {c : Clock} (ok : c.InRange) : c.tick.1.InRange := by
  unfold Clock.tick
  split
  · exact ok
  · exact advance_inRange _ ok

theorem warmClock_inRange (c : Clock) (counted timebase : Nat) : (c.warm counted timebase).InRange :=
  ⟨(setTo_range c _).1, (setTo_range c _).2, rfl⟩

theorem coldClock_inRange (timebase : Nat) : (Clock.cold timebase).InRange :=
  ⟨Nat.zero_le _, Nat.zero_lt_succ _, rfl⟩

/-! ## The links (R181) -/

/-- The divisors and the hall address are within their ranges (R181). -/
def Links.InRange (l : Links) : Prop :=
  l.planning.inRange ∧ l.console.inRange ∧ l.address < 32 ∧ l.addressLines < 32

theorem setSide_inRange {l : Links} (link : Link) {f : LinkState → LinkState} (ok : l.InRange)
    (keeps : ∀ x : LinkState, x.inRange → (f x).inRange) : (l.setSide link f).InRange := by
  obtain ⟨planning, console, addresses⟩ := ok
  cases link with
  | planning => exact ⟨keeps _ planning, console, addresses⟩
  | console => exact ⟨planning, keeps _ console, addresses⟩

/-- A new divisor comes into force when the response has been sent (R187). -/
theorem sent_inRange {l : LinkState} (ok : l.inRange) : l.sent.inRange := by
  have changed : l.newDivisor.getD l.divisor ≤ 1023 := by
    obtain ⟨divisor, next⟩ := ok
    cases eq : l.newDivisor with
    | none => exact divisor
    | some d => simpa [eq] using next
  unfold LinkState.sent
  split
  · split
    · exact ⟨changed, rfl⟩
    · exact ok
  · exact ok

theorem startLinks_inRange {address : Nat} (draws : Nat) (lt : address < 32) : (Links.start address draws).InRange :=
  have divisor : Config.startDivisor ≤ 1023 := by decide
  ⟨⟨divisor, rfl⟩, ⟨divisor, rfl⟩, lt, lt⟩

theorem inRange_iff (s : State) :
    InRange s ↔ s.env.clock.InRange ∧ s.links.InRange ∧ ∀ i ∈ s.pending, startAddressOk i := by
  simp only [InRange, Clock.InRange, Links.InRange, and_assoc]

/-! ## What the events of the clock, the hall lines and the timers leave -/

/-- What such an event leaves: configuration, mode, mask, the queue and the links, but for the answer of a request that
waited for the survey. -/
structure LeavesSettings (s t : State) : Prop where
  env : t.env = { s.env with clock := t.env.clock, timebase := t.env.timebase, inputs := t.env.inputs }
  clock : s.env.clock.InRange → t.env.clock.InRange
  links : t.links =
    { s.links with console := { s.links.console with outstanding := t.links.console.outstanding } }
  unsurveyed : s.hall.matrix.survey = none → t.links = s.links
  pending : t.pending = s.pending

theorem LeavesSettings.refl (s : State) : LeavesSettings s s := ⟨rfl, id, rfl, fun _ => rfl, rfl⟩

theorem event_leaves {env : Env → Env} {run : Env → Hall → Hall} (s : State)
    (same : env s.env =
      { s.env with clock := (env s.env).clock, timebase := (env s.env).timebase, inputs := (env s.env).inputs })
    (clock : s.env.clock.InRange → (env s.env).clock.InRange) : LeavesSettings s (event env run s) := by
  unfold event
  split
  · exact ⟨same, clock, rfl, fun _ => rfl, rfl⟩
  · exact .refl s

theorem expiry_leaves (limit : Hall → Option Nat) (run : Env → Hall → Hall) (s : State) :
    LeavesSettings s (expiry limit run s) := by
  unfold expiry
  split
  · exact .refl s
  · exact event_leaves s rfl id

theorem clockEvent_leaves {moved : Clock × Handing} (t : Nat) (before : Env → Hall → Hall) (s : State)
    (clock : s.env.clock.InRange → moved.1.InRange) : LeavesSettings s (clockEvent moved t before s) :=
  event_leaves s rfl clock

/-- Only the end of a survey answers a request on the console link (R89, R185). -/
theorem surveyOver_leaves {e : Env} (sv : Survey) (change : Hall → Hall) {s : State}
    (surveyed : s.hall.matrix.survey ≠ none)
    (same : e = { s.env with clock := e.clock, timebase := e.timebase, inputs := e.inputs })
    (clock : s.env.clock.InRange → e.clock.InRange) : LeavesSettings s (surveyOver e sv change s) := by
  have ended := event_leaves (env := fun _ => e) (run := fun e h => (endSurvey e sv (change h)).1) s same clock
  unfold surveyOver State.deliver
  split
  · exact ended
  · refine ⟨ended.env, ended.clock, ?_, fun no => absurd no surveyed, ended.pending⟩
    dsimp only [Links.setSide]
    rw [ended.links]

theorem contact_leaves (r c : Nat) (reading : Reading) (s : State) : LeavesSettings s (contact r c reading s) := by
  unfold contact
  dsimp only
  split
  · exact event_leaves s rfl id
  · next sv surveyed =>
    have some' : s.hall.matrix.survey ≠ none := by simp [surveyed]
    repeat' split
    · exact surveyOver_leaves _ _ some' rfl id
    · exact event_leaves s rfl id
    · exact event_leaves s rfl id

/-- Every event of the clock, the hall lines and the timers completes and leaves the settings. -/
theorem hallEvent_leaves (i : Instr) (s : State) (is : isHallEvent i = true) :
    ∃ t, exec i s = .next t ∧ LeavesSettings s t := by
  cases i with
  | secondPulse time => exact ⟨_, rfl, clockEvent_leaves _ _ s (pulse_inRange _)⟩
  | pulseWatchExpiry =>
    change ∃ t, execPulseWatchExpiry s = _ ∧ _
    unfold execPulseWatchExpiry
    split
    · exact ⟨_, rfl, .refl s⟩
    · exact ⟨_, rfl, clockEvent_leaves _ _ s (watchEnds_inRange _)⟩
  | internalAdvance =>
    change ∃ t, execInternalAdvance s = _ ∧ _
    unfold execInternalAdvance
    split
    · exact ⟨_, rfl, .refl s⟩
    · exact ⟨_, rfl, clockEvent_leaves _ _ s tick_inRange⟩
  | contactReport row col reading =>
    refine ⟨_, rfl, ?_⟩
    split
    · exact contact_leaves row col reading s
    · exact .refl s
  | surveyLimit =>
    change ∃ t, execSurveyLimit s = _ ∧ _
    unfold execSurveyLimit
    split
    · exact ⟨_, rfl, .refl s⟩
    · next sv surveyed =>
      refine ⟨_, rfl, ?_⟩
      split
      · exact surveyOver_leaves sv id (by simp [surveyed]) rfl id
      · exact .refl s
  | settingCompletionReport a x => exact ⟨_, rfl, event_leaves s rfl id⟩
  | statusReport k x => exact ⟨_, rfl, event_leaves s rfl id⟩
  | tuneComplete k f => exact ⟨_, rfl, event_leaves s rfl id⟩
  | detectorConversion k vf vr => exact ⟨_, rfl, event_leaves s rfl id⟩
  | moveTimeout row col => exact ⟨_, rfl, expiry_leaves _ _ s⟩
  | settingTimeout a => exact ⟨_, rfl, expiry_leaves _ _ s⟩
  | tuneTimeout k => exact ⟨_, rfl, expiry_leaves _ _ s⟩
  | rfUpTimeout k => exact ⟨_, rfl, expiry_leaves _ _ s⟩
  | rfDownTimeout k => exact ⟨_, rfl, expiry_leaves _ _ s⟩
  | recycleTimerExpiry k => exact ⟨_, rfl, expiry_leaves _ _ s⟩
  | cleanRunExpiry k => exact ⟨_, rfl, expiry_leaves _ _ s⟩
  | _ => cases is

/-- Settles O6: only the end of a survey touches the links, by the answer it delivers to the console. -/
theorem hallEventsLeaveLinksAndConfiguration : Obligations.HallEventsLeaveLinksAndConfiguration := by
  unfold Obligations.HallEventsLeaveLinksAndConfiguration
  intro i s is
  obtain ⟨t, run, leaves⟩ := hallEvent_leaves i s is
  refine ⟨t, run, ?_, ?_, ?_, ?_, ?_, ?_, leaves.unsurveyed⟩
  · rw [leaves.links]
  · rw [leaves.links]
  · rw [leaves.links]
  · rw [leaves.env]
  · rw [leaves.env]
  · rw [leaves.env]

/-! ## What the commands keep of the ranges -/

section Ranges

variable {α : Type} {s : State} (ok : InRange s)

include ok

theorem LeavesSettings.inRange {t : State} (leaves : LeavesSettings s t) : InRange t := by
  obtain ⟨clock, ⟨planning, console, addresses⟩, pending⟩ := (inRange_iff s).mp ok
  refine (inRange_iff t).mpr ⟨leaves.clock clock, ?_, leaves.pending ▸ pending⟩
  rw [leaves.links]
  exact ⟨planning, console, addresses⟩

theorem withLinks_inRange {l : Links} (links : s.links.InRange → l.InRange) : InRange { s with links := l } := by
  obtain ⟨clock, old, pending⟩ := (inRange_iff s).mp ok
  exact (inRange_iff _).mpr ⟨clock, links old, pending⟩

theorem withEnv_inRange {e : Env} (clock : s.env.clock.InRange → e.clock.InRange) : InRange { s with env := e } := by
  obtain ⟨old, links, pending⟩ := (inRange_iff s).mp ok
  exact (inRange_iff _).mpr ⟨clock old, links, pending⟩

theorem reply_inRange (link : Link) (code : Nat) (tag : Byte) (a : Option Answer) : InRange (s.reply link code tag a) :=
  withLinks_inRange ok fun links => setSide_inRange link links fun _ range => range

theorem setReceiver_inRange (link : Link) (r : Receiver) : InRange (s.setReceiver link r) := by
  unfold State.setReceiver
  split
  · exact withLinks_inRange ok fun links => setSide_inRange link links fun _ range => range
  · exact ok

theorem changing_inRange (run : α → Env → Hall → Effect) (a : α) : InRange (changing run a s).1 := by
  rcases changing_cases run a s with eq | ⟨f, -, eq⟩
  · rw [eq]; exact ok
  · rw [eq]; exact ok

theorem governing_inRange {run : α → Env → Hall → Verdict}
    (clock : ∀ a e h, e.clock.InRange → (run a e h).env.clock.InRange) (a : α) : InRange (governing run a s).1 := by
  have governed : InRange { s with env := (run a s.env s.hall).env } := withEnv_inRange ok (clock a s.env s.hall)
  unfold governing
  dsimp only
  split
  · exact governed
  · exact governed

theorem frameOr_inRange {bad : State → Answer} {link : Link} {code : Nat} {tag : Byte} {body : Body α}
    {run : α → State → State × Option Answer} (keeps : ∀ a, InRange (run a s).1) :
    InRange (frameOr bad link code tag body run s) := by
  unfold frameOr
  repeat' split
  · exact reply_inRange ok _ _ _ _
  · exact reply_inRange (keeps _) _ _ _ _
  · exact setReceiver_inRange ok _ _

theorem frame_inRange {link : Link} {code : Nat} {tag : Byte} {body : Body α} {run : α → State → State × Option Answer}
    (keeps : ∀ a, InRange (run a s).1) : InRange (frame link code tag body run s) := frameOr_inRange ok keeps

theorem setRateRun_inRange (link : Link) (divisor : Nat) : InRange (setRateRun link divisor s).1 := by
  unfold setRateRun
  split
  · exact ok
  · next small =>
    exact withLinks_inRange ok fun links => setSide_inRange link links fun _ range =>
      ⟨range.1, decide_eq_true (Nat.le_of_not_lt small)⟩

theorem setMaskRun_inRange (mask : BitVec 32) : InRange (setMaskRun mask s).1 := by
  unfold setMaskRun
  split
  · exact ok
  · exact ok

theorem coldStart_inRange {address : Nat} (lt : address < 32) : InRange (coldStart address s) :=
  (inRange_iff _).mpr ⟨coldClock_inRange _, startLinks_inRange _ lt, ((inRange_iff s).mp ok).2.2⟩

theorem startUp_inRange {i : StartInputs} (lt : i.address < 32) : InRange (startUp i s) := by
  unfold startUp
  split
  · exact (inRange_iff _).mpr ⟨warmClock_inRange _ _ _, startLinks_inRange _ lt, ((inRange_iff s).mp ok).2.2⟩
  · exact coldStart_inRange ok lt

end Ranges

/-! ## What hall control and SET CLOCK make of the clock -/

theorem setPending_inRange {v : ClockValue} {e : Env} (good : clockValueOk v = true) (ok : e.clock.InRange) :
    (setPending v e).clock.InRange := ⟨ok.1, ok.2.1, good⟩

theorem setClockRun_clock (v : ClockValue) (e : Env) (h : Hall) (ok : e.clock.InRange) :
    (setClockRun v e h).env.clock.InRange := by
  unfold setClockRun
  split
  · next good => exact setPending_inRange good ok
  · exact ok

theorem configureHallRun_clock (r : HallRecord) (e : Env) (h : Hall) : (configureHallRun r e h).env.clock = e.clock := by
  unfold configureHallRun
  cases configureHallRefusal e h r <;> rfl

theorem commissionRun_clock (u : Unit) (e : Env) (h : Hall) : (commissionRun u e h).env.clock = e.clock := by
  unfold commissionRun
  split <;> rfl

theorem reconfigureRun_clock (u : Unit) (e : Env) (h : Hall) : (reconfigureRun u e h).env.clock = e.clock := by
  unfold reconfigureRun
  repeat' split
  all_goals rfl

theorem freshPair_clock (old new : Env) (t : Nat) : (freshPair old new t).clock = new.clock := by
  unfold freshPair
  split <;> rfl

theorem configureTransmitterRun_clock (w : TxWrite) (e : Env) (h : Hall) :
    (configureTransmitterRun w e h).env.clock = e.clock := by
  unfold configureTransmitterRun
  repeat' split
  · rfl
  · rfl
  · rfl
  · exact freshPair_clock e _ _

theorem configureAntennaRun_clock (w : AntWrite) (e : Env) (h : Hall) :
    (configureAntennaRun w e h).env.clock = e.clock := by
  unfold configureAntennaRun
  repeat' split
  all_goals rfl

theorem hallStopRun_clock (u : Unit) (e : Env) (h : Hall) : (hallStopRun u e h).env.clock = e.clock := by
  unfold hallStopRun
  split <;> rfl

theorem hallResumeRun_clock (u : Unit) (e : Env) (h : Hall) : (hallResumeRun u e h).env.clock = e.clock := by
  unfold hallResumeRun
  split <;> rfl

theorem broadcastClock_inRange {s : State} (body : Body ClockValue) (ok : InRange s) :
    InRange (broadcastClock body s) := by
  have waiting := setReceiver_inRange ok .planning .waiting
  unfold broadcastClock
  dsimp only
  split
  · exact waiting
  · split
    · next good => exact withEnv_inRange waiting (setPending_inRange (Bool.and_eq_true_iff.mp good).2)
    · exact waiting

/-! ## The invariant -/

section Invariant

variable {s : State} (ok : InRange s)

include ok

/-- A command keeps the ranges when a start-up it makes reads an address in range. -/
theorem exec_inRange {t : State} (i : Instr) (address : startAddressOk i) (run : exec i s = .next t) : InRange t := by
  have next {s' : State} (ok : InRange s')
      (eq : Host.Outcome.next s' = (.next t : Host.Outcome State Fault Refusal)) : InRange t := by
    cases eq
    exact ok
  have governed {α : Type} {run : α → Env → Hall → Verdict} (same : ∀ a e h, (run a e h).env.clock = e.clock) :
      ∀ a, InRange (governing run a s).1 :=
    governing_inRange ok fun a e h range => by rw [same]; exact range
  by_cases is : isHallEvent i = true
  · obtain ⟨t', eq, leaves⟩ := hallEvent_leaves i s is
    exact next (leaves.inRange ok) (eq.symm.trans run)
  cases i with
  | enter tag body | loadBlock tag body | amend tag body | withdraw tag body | calendarAdd tag body
  | calendarRemove tag body | lockAntenna tag body | freeAntenna tag body | clearSuspect tag body | clearStuck tag body
  | takeLocal tag body | giveRemote tag body | localRoute tag body | localTune tag body | localRfOn tag body
  | localRfOff tag body | clearHeld tag body | takeAmendment tag body | dropAmendment tag body =>
    exact next (frame_inRange ok (changing_inRange ok _)) run
  | fetch link tag body | list tag body | calendarRead tag body | readCues tag body | readTransmitter link tag body
  | readAntenna link tag body | readRoutes link tag body | poll link tag body | ackAlarm tag body =>
    exact next (frame_inRange ok fun _ => ok) run
  | setAlarmMask tag body => exact next (frame_inRange ok (setMaskRun_inRange ok)) run
  | setLinkRate link tag body => exact next (frame_inRange ok (setRateRun_inRange ok link)) run
  | setClock dest body =>
    cases dest with
    | addressed tag => exact next (frame_inRange ok (governing_inRange ok setClockRun_clock)) run
    | broadcast => exact next (broadcastClock_inRange body ok) run
  | configureHall tag body => exact next (frameOr_inRange ok (governed configureHallRun_clock)) run
  | commission tag body => exact next (frame_inRange ok (governed commissionRun_clock)) run
  | reconfigure tag body => exact next (frame_inRange ok (governed reconfigureRun_clock)) run
  | configureTransmitter tag body => exact next (frame_inRange ok (governed configureTransmitterRun_clock)) run
  | configureAntenna tag body => exact next (frame_inRange ok (governed configureAntennaRun_clock)) run
  | hallStop tag body => exact next (frame_inRange ok (governed hallStopRun_clock)) run
  | hallResume tag body => exact next (frame_inRange ok (governed hallResumeRun_clock)) run
  | unknownCommand link code tag =>
    refine next ?_ run
    split
    · exact reply_inRange ok _ _ _ _
    · exact setReceiver_inRange ok _ _
  | characterGapTimeout link | linkBreak link | frameDiscard link cause =>
    exact next (setReceiver_inRange ok _ _) run
  | responseSent link =>
    refine next ?_ run
    split
    · exact withLinks_inRange ok fun links => setSide_inRange link links fun _ => sent_inRange
    · exact ok
  | powerUp inputs | restartReleased inputs =>
    refine next ?_ run
    split
    · exact startUp_inRange ok address
    · exact ok
  | restartHeld5s lines =>
    refine next ?_ run
    split
    · exact coldStart_inRange (withEnv_inRange ok id) address
    · exact ok
  | restartAsserted | mainSupplyLoss =>
    refine next ?_ run
    split
    · exact ok
    · exact ok
  | _ => exact absurd rfl is

end Invariant

/-! ## An idle step -/

/-- No expiry that is left while the part runs is a start-up. -/
theorem expiries_startAddressOk (e : Env) (h : Hall) : ∀ i ∈ expiries e h, startAddressOk i := by
  intro i mem
  rcases mem_expiries.mp mem with ⟨rfl, -⟩ | ⟨rfl, -⟩ | ⟨rfl, -⟩ | ⟨_, _, -, -, rfl, -⟩ | ⟨_, -, rfl, -⟩ | ⟨_, -, mem⟩
  · trivial
  · trivial
  · trivial
  · trivial
  · trivial
  · rcases mem_txExpiries.mp mem with ⟨rfl, -⟩ | ⟨rfl, -⟩ | ⟨rfl, -⟩ | ⟨rfl, -⟩ | ⟨rfl, -⟩ <;> trivial

theorem idle_inRange {s : State} (ok : InRange s) : InRange (idle s) := by
  obtain ⟨clock, links, pending⟩ := (inRange_iff s).mp ok
  cases power : s.power with
  | running =>
    rw [idle_running power]
    exact (inRange_iff _).mpr ⟨clock, links, expiries_startAddressOk _ _⟩
  | halted since =>
    rw [idle_halted power]
    refine (inRange_iff _).mpr ⟨clock, links, fun i mem => ?_⟩
    have cold : i = .restartHeld5s s.links.addressLines := by
      dsimp only at mem
      split at mem
      · exact List.mem_singleton.mp mem
      · cases mem
    rw [cold]
    exact links.2.2.2
  | absent =>
    rw [idle_absent power]
    exact ok

/-- Settles O59: each command keeps the ranges when its own address is in range, and the queue holds no other. -/
theorem clockAndLinkFieldsStayInRange : Obligations.ClockAndLinkFieldsStayInRange := by
  unfold Obligations.ClockAndLinkFieldsStayInRange
  intro s t ok run
  unfold step at run
  split at run
  · cases run
    exact idle_inRange ok
  · next i rest eq =>
    obtain ⟨clock, links, pending⟩ := (inRange_iff s).mp ok
    rw [eq] at pending
    refine exec_inRange (s := { s with pending := rest }) ?_ i (pending i List.mem_cons_self) run
    exact (inRange_iff _).mpr ⟨clock, links, fun j mem => pending j (List.mem_cons_of_mem _ mem)⟩

end Sys2Proof.Machine
end

section
/-! The station clock: advances and the loading of a setting (R32, R33), pulses, watch and internal advance (R27
to R30): O30, O29. -/

namespace Sys2Proof.Machine

/-! ## Advances (R25, R32, R33) -/

/-- A clock set to a time that it can hold. -/
theorem setTo_eq (c : Clock) {t : Nat} (held : t ≤ lastSecond) :
    c.setTo t = { c with day := t / 86400, second := t % 86400 } := by
  unfold Clock.setTo
  rw [Nat.min_eq_left held]

/-- The clock with a setting that it has taken (R32). -/
def Clock.loaded (c : Clock) (t : Nat) : Clock :=
  { c with day := t / 86400, second := t % 86400, setting := none, everSet := true }

theorem advance_plain {c : Clock} (n : Nat) (no : c.setting = none) : c.advance n =
    if n = 0 then (c, .nothing)
    else
      let predicted := min (c.value + n) lastSecond
      ({ c with day := predicted / 86400, second := predicted % 86400 }, .ordinary) := by
  simp only [Clock.advance, no, setTo_eq c (Nat.min_le_right _ _)]

theorem advance_setting {c : Clock} {v : ClockValue} (n : Nat) (pending : c.setting = some v) : c.advance n =
    let taken := min (absolute v.day v.second + (n - 1)) lastSecond
    let step := ((taken : Int) - (min (c.value + n) lastSecond : Nat)).natAbs
    if c.status = .unset then
      ({ c.loaded taken with status := .holdover, watch := some (c.lastAdvance + 2000) }, .first)
    else if step ≤ 1 then (c.loaded taken, .ordinary)
    else (c.loaded taken, .step (min step 65535)) := by
  simp only [Clock.advance, pending, setTo_eq c (Nat.min_le_right _ _), absDiff_eq]
  rfl

/-- Settles O30: the setting's absence and presence are the two branches of the advance. -/
theorem settingLoadedAtAnAdvance : Obligations.SettingLoadedAtAnAdvance := by
  unfold Obligations.SettingLoadedAtAnAdvance
  intro c n old last predicted
  split
  · next no => exact advance_plain n no
  · next v pending => exact advance_setting n pending

/-! ## Pulses, watch and internal advance (R27 to R30) -/

theorem pulse_eq (c : Clock) (t : Nat) : c.pulse t =
    if c.status = .unset then (c, .nothing)
    else if c.status = .locked then
      if 2 * (t - c.lastPulse) < 1000 then (c, .nothing)
      else Clock.advance { c with lastPulse := t, lastAdvance := t, watch := some (t + 2000) }
        (roundHalfUp (t - c.lastPulse) 1000)
    else if 2 * (t - c.lastAdvance) < 1000 then
      Clock.advance { c with status := .locked, lastPulse := t, watch := some (t + 2000) } 0
    else Clock.advance { c with status := .locked, lastPulse := t, lastAdvance := t, watch := some (t + 2000) } 1 := by
  have early (a : Nat) : 2 * a < 1000 ↔ a < 500 := by omega
  have rounded (a : Nat) : roundHalfUp a 1000 = (a + 500) / 1000 := by
    unfold roundHalfUp
    omega
  simp only [early, rounded]
  unfold Clock.pulse
  cases c.status with
  | unset => rfl
  | locked => rfl
  | holdover =>
    dsimp only
    split
    · rfl
    · rfl

theorem clockEvent_running {s : State} (on : s.power = .running) (moved : Clock × Handing) (t : Nat)
    (before : Env → Hall → Hall) : clockEvent moved t before s =
      (let e := { s.env with timebase := max s.env.timebase t, clock := moved.1 }
       State.act { s with env := e } fun h => handOn e s.env.clock moved.2 (before e h)) := event_running on

/-- Settles O29: each event is a clock event on what the clock makes of it. -/
theorem pulsesAndInternalAdvances : Obligations.PulsesAndInternalAdvances := by
  unfold Obligations.PulsesAndInternalAdvances
  refine ⟨⟨pulse_eq, fun s time on => ?_⟩, fun s limit on running => ?_, fun s stopped => ?_, fun s on free => ?_,
    fun s locked => ?_⟩
  · intro t e
    have late : max s.env.timebase t = t := Nat.max_eq_right (Nat.le_max_left _ _)
    show Host.Outcome.next (clockEvent (s.env.clock.pulse t) t (fun _ h => h) s) = _
    rw [clockEvent_running on, late]
  · intro c moved e
    have ends : c.watchEnds limit = moved := rfl
    show execPulseWatchExpiry s = _
    unfold execPulseWatchExpiry
    rw [running]
    dsimp only
    rw [clockEvent_running on, ends]
  · show execPulseWatchExpiry s = _
    unfold execPulseWatchExpiry
    rw [stopped]
  · intro c moved e
    have ticks : c.tick = moved := if_neg free
    show execInternalAdvance s = _
    unfold execInternalAdvance
    rw [if_neg free, clockEvent_running on, ticks]
  · exact if_pos locked

end Sys2Proof.Machine
end

section
/-! SET CLOCK (R32, R183), the live season, and CALENDAR ADD and REMOVE (R36 to R39): O32, O33. -/

namespace Sys2Proof.Machine

/-! ## SET CLOCK (R32, R183) -/

theorem clockValueOk_iff (v : ClockValue) : clockValueOk v = true ↔ v.day ≤ 65535 ∧ v.second ≤ 86399 := by
  unfold clockValueOk
  rw [Bool.and_eq_true, decide_eq_true_eq, decide_eq_true_eq]
  exact and_congr_right fun _ => Nat.lt_succ_iff

theorem setReceiver_outstanding (s : State) (link : Link) (r : Receiver) :
    ((s.setReceiver link r).links.side link).outstanding = (s.links.side link).outstanding := by
  unfold State.setReceiver
  split
  · rw [side_setSide_same]
  · rfl

theorem broadcastClock_fields (s : State) (v : ClockValue) : broadcastClock (.fields v) s =
    if s.power = .running ∧ s.links.planning.outstanding = none ∧ v.day ≤ 65535 ∧ v.second ≤ 86399 then
      { s.setReceiver .planning .waiting with env := setPending v s.env }
    else s.setReceiver .planning .waiting := by
  have free : (s.setReceiver .planning .waiting).links.planning.outstanding = s.links.planning.outstanding :=
    setReceiver_outstanding s .planning .waiting
  simp only [broadcastClock, setReceiver_power, setReceiver_env, free, Bool.and_eq_true,
    decide_eq_true_eq, Option.isNone_iff_eq_none, clockValueOk_iff, and_assoc]

/-- Settles O32: the range test alone decides, behind the receiver's change for a broadcast. -/
theorem setClockMakesASettingPending : Obligations.SetClockMakesASettingPending := by
  unfold Obligations.SetClockMakesASettingPending
  refine ⟨fun s tag v yes => ?_, fun s v => ?_, fun s => rfl⟩
  · show Host.Outcome.next (frame .planning 10 tag (.fields v) (governing setClockRun) s) = _
    split
    · next good =>
      exact congrArg _ (governing_answered yes (if_pos ((clockValueOk_iff v).mpr good)))
    · next bad => exact governing_refused yes (if_neg ((clockValueOk_iff v).not.mpr bad))
  · show Host.Outcome.next (broadcastClock (.fields v) s) = _
    rw [broadcastClock_fields, apply_ite Host.Outcome.next]
    rfl

/-! ## The live season (R36) -/

/-- The last of a list in ascending order of a key is its member with the greatest key. -/
theorem getLast?_ascending {α : Type} {key : α → Nat} {l : List α} (ascending : (l.map key).Pairwise (· < ·)) (x : α) :
    l.getLast? = some x ↔ x ∈ l ∧ ∀ y ∈ l, key y ≤ key x := by
  have greatest {z : α} (last : l.getLast? = some z) : z ∈ l ∧ ∀ y ∈ l, key y ≤ key z := by
    obtain ⟨front, rfl⟩ := List.getLast?_eq_some_iff.mp last
    have before := List.pairwise_append.mp (List.pairwise_map.mp ascending)
    refine ⟨by simp, fun y mem => ?_⟩
    rcases List.mem_append.mp mem with mem | mem
    · exact Nat.le_of_lt (before.2.2 y mem z (List.mem_singleton_self z))
    · rw [List.mem_singleton.mp mem]
  refine ⟨greatest, fun ⟨mem, most⟩ => ?_⟩
  obtain ⟨z, last⟩ := Option.ne_none_iff_exists'.mp (mt List.getLast?_eq_none_iff.mp (List.ne_nil_of_mem mem))
  obtain ⟨own, above⟩ := greatest last
  have distinct : (l.map key).Nodup := ascending.imp Nat.ne_of_lt
  rw [last, List.inj_on_of_nodup_map distinct own mem (Nat.le_antisymm (most z own) (above x mem))]

theorem liveOn_eq_some {entries : List SeasonEntry} (ascending : (entries.map (·.firstDay)).Pairwise (· < ·))
    (day id : Nat) : liveOn entries day = some id ↔
      ∃ x ∈ entries, x.id = id ∧ x.firstDay ≤ day ∧ ∀ y ∈ entries, y.firstDay ≤ day → y.firstDay ≤ x.firstDay := by
  have begun : ((entries.filter (·.firstDay ≤ day)).map (·.firstDay)).Pairwise (· < ·) :=
    ascending.sublist (List.filter_sublist.map _)
  simp only [liveOn, Option.map_eq_some_iff, getLast?_ascending begun, List.mem_filter, decide_eq_true_eq]
  constructor
  · rintro ⟨x, ⟨⟨mem, le⟩, most⟩, same⟩
    exact ⟨x, mem, same, le, fun y own first => most y ⟨own, first⟩⟩
  · rintro ⟨x, mem, same, le, most⟩
    exact ⟨x, ⟨⟨mem, le⟩, fun y own => most y own.1 own.2⟩, same⟩

theorem liveOn_eq_none (entries : List SeasonEntry) (day : Nat) :
    liveOn entries day = none ↔ ∀ x ∈ entries, day < x.firstDay := by
  simp only [liveOn, Option.map_eq_none_iff, List.getLast?_eq_none_iff, List.filter_eq_nil_iff, decide_eq_true_eq,
    Nat.not_le]

/-! ## The checks of CALENDAR ADD and REMOVE (R38, R39) -/

theorem calendarAddRefusal_eq (e : Env) (h : Hall) (x : SeasonEntry) : calendarAddRefusal e h x =
    if x.id < 1 ∨ 255 < x.id ∨ 65535 < x.firstDay then some .format
    else if e.clock.status ≠ .unset ∧ x.firstDay ≤ e.clock.day then some .past
    else if ∃ y ∈ h.calendar.entries, y.id = x.id ∨ y.firstDay = x.firstDay then some .exists
    else if 4 ≤ h.calendar.entries.length then some .full
    else none := by
  simp only [calendarAddRefusal, Bool.or_eq_true, Bool.and_eq_true, Bool.not_eq_true', decide_eq_true_eq, or_assoc,
    ← Bool.not_eq_true, unset_iff, List.any_eq_true, beq_iff_eq]

theorem calendarRemoveRefusal_eq (e : Env) (h : Hall) (id : Nat) : calendarRemoveRefusal e h id =
    if id < 1 ∨ 255 < id then some .format
    else if ∀ y ∈ h.calendar.entries, y.id ≠ id then some .unknown
    else if namesOf h id ≠ 0 then some .inUse
    else if e.clock.status ≠ .unset ∧ liveOn h.calendar.entries e.clock.day = some id then some .past
    else none := by
  simp only [calendarRemoveRefusal, Bool.or_eq_true, Bool.and_eq_true, Bool.not_eq_true', decide_eq_true_eq, 
    ← Bool.not_eq_true, unset_iff, List.any_eq_true, beq_iff_eq, not_exists, not_and, bne_iff_ne]

/-- A command that its block takes unless one of its checks refuses it. -/
theorem changing_unless {α : Type} {s : State} {link : Link} {code : Nat} {tag : Byte} {a : α}
    {run : α → Env → Hall → Effect} {f : Hall → Hall} (refusal : Option ResultCode) (yes : s.takes link = true)
    (eq : run a s.env s.hall = refusal.elim (.done f) .unchanged) :
    .next (frame link code tag (.fields a) (changing run) s) =
      refusal.elim (takes s link code tag f) (answers s link code tag) := by
  cases refusal with
  | none => exact changing_done yes eq
  | some r => exact changing_refused yes eq

theorem calendarAdd_outcome {s : State} (tag : Byte) (x : SeasonEntry) (yes : s.takes .planning = true) :
    exec (.calendarAdd tag (.fields x)) s = (calendarAddRefusal s.env s.hall x).elim
      (takes s .planning 7 tag fun h =>
        changeCalendar s.env (insertBy (fun a b => decide (a.firstDay < b.firstDay)) x h.calendar.entries) h)
      (answers s .planning 7 tag) := by
  refine changing_unless (run := calendarAddRun) _ yes ?_
  unfold calendarAddRun
  cases calendarAddRefusal s.env s.hall x <;> rfl

theorem calendarRemove_outcome {s : State} (tag : Byte) (id : Nat) (yes : s.takes .planning = true) :
    exec (.calendarRemove tag (.fields id)) s = (calendarRemoveRefusal s.env s.hall id).elim
      (takes s .planning 8 tag fun h => changeCalendar s.env (h.calendar.entries.filter fun y => y.id != id) h)
      (answers s .planning 8 tag) := by
  refine changing_unless (run := calendarRemoveRun) _ yes ?_
  unfold calendarRemoveRun
  cases calendarRemoveRefusal s.env s.hall id <;> rfl

/-- A change of the calendar leaves all but the calendar, the cues and the postings. -/
theorem changeCalendar_frame (e : Env) (l : List SeasonEntry) (h : Hall) : changeCalendar e l h =
    { h with calendar := (changeCalendar e l h).calendar
             lookahead := (changeCalendar e l h).lookahead
             attention := (changeCalendar e l h).attention } := by
  have only := onlyCues_rescan e (findLive e { h with calendar := { h.calendar with entries := l } })
  unfold OnlyCues at only
  unfold changeCalendar
  rw [only]
  rfl

/-- Settles O33: the last entry that has begun is the live one, and each command is the first check that fails. -/
theorem calendarChangesAndLiveSeason : Obligations.CalendarChangesAndLiveSeason := by
  unfold Obligations.CalendarChangesAndLiveSeason
  refine ⟨fun entries day ascending => ⟨liveOn_eq_some ascending day, liveOn_eq_none entries day⟩,
    fun s tag x yes => ?_, fun s tag id yes => ?_, fun x y l => ?_, fun e l h => ⟨rfl, ?_, ?_⟩⟩
  · refine (calendarAdd_outcome tag x yes).trans ?_
    rw [calendarAddRefusal_eq]
    split_ifs <;> rfl
  · refine (calendarRemove_outcome tag id yes).trans ?_
    rw [calendarRemoveRefusal_eq]
    split_ifs <;> rfl
  · rw [(insertBy_perm _ x l).mem_iff, List.mem_cons]
  · exact calendar_of_books (rescan_books e _)
  · exact changeCalendar_frame e l h

end Sys2Proof.Machine
end

section
/-! What follows inside one command: its rounds, and the cue or report that each takes (R31, R47, R72, R83, R84, R97):
O5. -/

namespace Sys2Proof.Machine

/-! ## The next report or cue -/

section Next

variable (e : Env) {h : Hall}

theorem takeNext_report {r : Report} {rest : List Report} (agenda : h.agenda = r :: rest) :
    takeNext e h = (takeReport e r { h with agenda := rest }, true) := by
  simp only [takeNext, agenda]

theorem takeNext_cue {c : Cue} {h' : Hall} (agenda : h.agenda = []) (due : takeDue e h = some (c, h')) :
    takeNext e h = (refill e (takeCue e c h'), true) := by
  simp only [takeNext, agenda, due]

theorem takeNext_nothing (agenda : h.agenda = []) (none' : takeDue e h = none) : takeNext e h = (h, false) := by
  simp only [takeNext, agenda, none']

/-- The first cue of the list, when it is due and the lookahead unit is not held back (R30, R47, R89). -/
theorem takeDue_some {c : Cue} {rest : List Cue} (cues : h.lookahead.cues = c :: rest) (due : c.due ≤ e.now)
    (set : e.clock.status ≠ .unset) (surveyed : h.matrix.survey = none) :
    takeDue e h = some (c, { h with lookahead := { h.lookahead with cues := rest } }) := by
  have free : ¬ (e.unset || h.matrix.survey.isSome) = true := by
    rw [Bool.or_eq_true, unset_iff, surveyed]
    exact fun no => no.elim set nofun
  unfold takeDue
  rw [if_neg free, cues]
  exact if_pos due

theorem takeDue_none (held : (∀ c rest, h.lookahead.cues = c :: rest → e.now < c.due) ∨ e.clock.status = .unset ∨
    h.matrix.survey ≠ none) : takeDue e h = none := by
  have back : (e.unset || h.matrix.survey.isSome) = true ↔ e.clock.status = .unset ∨ h.matrix.survey ≠ none := by
    rw [Bool.or_eq_true, unset_iff, Option.isSome_iff_ne_none]
  unfold takeDue
  rw [if_congr back rfl rfl]
  split
  · rfl
  · next free =>
    have later := held.resolve_right free
    cases cues : h.lookahead.cues with
    | nil => rfl
    | cons c rest => exact if_neg (Nat.not_le_of_lt (later c rest cues))

end Next

/-! ## Rounds -/

/-- A hall in which nothing is left to do stays as it is. -/
theorem settleRounds_still {e : Env} {h : Hall} (still : Still e h) (n : Nat) : settleRounds e n h = h := by
  obtain ⟨pass, -, agenda, due⟩ := still
  cases n with
  | zero => rfl
  | succ n => simp [settleRounds, settleRound, pass, takeNext_nothing e agenda due]

theorem conclude_still {e : Env} {h : Hall} (still : Still e h) : conclude e [] h = h := by
  show enforceRf e (settleRounds e Config.settleLimit h) = h
  rw [settleRounds_still still, still.2.1]

theorem settleRounds_succ (e : Env) (n : Nat) (h : Hall) : settleRounds e (n + 1) h =
    (let round := takeNext e (matrixPass e h)
     if round.2 = true then settleRounds e n round.1 else round.1) := by
  rw [settleRounds, settleRound]

theorem settleLimit_eq : Config.settleLimit = 65536 := by rw [Config.settleLimit]

theorem matrixPass_eq (e : Env) (h : Hall) : matrixPass e h =
    (let lit := enforceRf e h
     if lit.matrix.survey ≠ none then lit
     else
       let locked := (List.range 25).foldl (fun h a => completeLock e a h) lit
       let sent := (List.range 25).foldl (fun h a => sendSetting e a h) locked
       giveSlots e 4 (drainOverflow sent)) := by
  simp only [← Option.isSome_iff_ne_none]
  rfl

theorem conclude_eq (e : Env) (waiting : List Nat) (h : Hall) : conclude e waiting h =
    if waiting = [] then settle e h
    else settle e (waiting.foldl (fun h t => retryKeying e t h) (settle e h)) := by
  simp only [← List.isEmpty_iff]
  rfl

/-- Settles O5: in a still hall the first round takes nothing, so it is the last. -/
theorem nothingFollowsInAStillHall : Obligations.NothingFollowsInAStillHall := by
  unfold Obligations.NothingFollowsInAStillHall
  refine ⟨fun e h still => conclude_still still, fun s f => rfl,
    fun e waiting h n => ⟨conclude_eq e waiting h, rfl, settleLimit_eq, rfl,
      settleRounds_succ e n h, matrixPass_eq e h⟩,
    fun e h => ⟨fun r rest agenda => takeNext_report e agenda, fun agenda => ⟨fun c rest cues due set surveyed => ?_,
      fun held => takeNext_nothing e agenda (takeDue_none e held)⟩⟩, fun e c h => ?_, fun e t r h => ⟨?_, rfl, rfl⟩⟩
  · exact takeNext_cue e agenda (takeDue_some e cues due set surveyed)
  · rfl
  · simp only [retryKeying, List.contains_iff_mem]

end Sys2Proof.Machine
end

section
/-! The lead of a PREPARE, its place before the start, and the cues made for an occurrence (R43, R53, R57 to R63):
O34 and O35. -/

namespace Sys2Proof.Machine

/-! ## The components of the lead (R57 to R60) -/

theorem absDiff_eq_natAbs (m n : Nat) : absDiff m n = ((m : Int) - (n : Int)).natAbs := by
  unfold absDiff
  split <;> omega

theorem tuneTime_eq (c : TxConfig) (tuned : Option Nat) (f : Nat) : tuneTime c tuned f =
    match tuned with
    | none => c.tuneBase + ceilDiv (c.tuneRate * (c.maxFreq - c.minFreq)) 10000
    | some g => if g = f then 0 else c.tuneBase + ceilDiv (c.tuneRate * ((f : Int) - (g : Int)).natAbs) 10000 := by
  cases tuned with
  | none => rfl
  | some g => rw [tuneTime, absDiff_eq_natAbs]

theorem switchTime_eq (travel target : Nat) (route : Option Nat) :
    switchTime travel route target = if route = some target then 0 else if route = none then travel else 2 * travel := by
  cases route with
  | none => rfl
  | some a => simp only [switchTime, Option.some.injEq, reduceCtorEq, if_false]

/-- What the antenna itself says of its setting: unknown while it changes (R57). -/
theorem predictedSetting_none (h : Hall) (target : Nat) : predictedSetting h none target =
    if (h.antenna target).change = none then (h.antenna target).setting else none := by
  cases change : (h.antenna target).change <;> simp [predictedSetting, change]

/-- A predecessor on another antenna says nothing of the setting of this one. -/
theorem predictedSetting_some (h : Hall) (p : Item) (target : Nat) : predictedSetting h (some p) target =
    if p.antenna = target then some p.setting else predictedSetting h none target := rfl

/-! ## The place of a PREPARE (R53, R61) -/

section Place

variable (ends r r' lead start now : Nat)

/-- Where a PREPARE is due when nothing is past yet (R61). -/
def unheldDue : Nat := if ends + r + lead ≤ start then start - lead else ends

theorem placePrepare_due : (placePrepare ends r r' lead start now).1 = max now (unheldDue ends r lead start) := by
  unfold placePrepare unheldDue
  dsimp only
  split_ifs <;> omega

/-- With room before the start the subtraction leaves nothing, as R61 has it. -/
theorem placePrepare_lateness : (placePrepare ends r r' lead start now).2 =
    if unheldDue ends r lead start < now then now + r' + lead - start else ends + r + lead - start := by
  unfold placePrepare unheldDue
  dsimp only
  split_ifs <;> omega

theorem placeReadmitted_due : (placeReadmitted ends r r' lead start now).1 = max now ends := by
  unfold placeReadmitted
  split <;> omega

theorem placeReadmitted_lateness : (placeReadmitted ends r r' lead start now).2 =
    if now < ends then ends + r + lead - start else now + r' + lead - start :=
  apply_ite Prod.snd _ _ _

/-- The due time that R61 writes as a difference of whole numbers: the lead never passes a start with room before it. -/
theorem unheldDue_cast : (unheldDue ends r lead start : Int) =
    if ends + r + lead ≤ start then (start : Int) - lead else ends := by
  unfold unheldDue
  split_ifs <;> omega

/-- R61 in whole numbers, where no difference is held at 0. -/
theorem placePrepare_cast :
    let room := ends + r + lead ≤ start
    let due : Int := if room then (start : Int) - lead else ends
    let late : Int := if room then 0 else (ends : Int) + r + lead - start
    ((placePrepare ends r r' lead start now).1 : Int) = (if due < (now : Int) then (now : Int) else due) ∧
    ((placePrepare ends r r' lead start now).2 : Int) =
      (if due < (now : Int) then max 0 ((now : Int) + r' + lead - start) else late) := by
  intro room due late
  have place : due = unheldDue ends r lead start := (unheldDue_cast ends r lead start).symm
  have past : late = (ends + r + lead - start : Nat) := by
    unfold late room
    split_ifs <;> omega
  rw [placePrepare_due, placePrepare_lateness, place, past]
  constructor <;> split_ifs <;> omega

theorem placeReadmitted_lateness_cast : ((placeReadmitted ends r r' lead start now).2 : Int) =
    if now < ends then max 0 ((ends : Int) + r + lead - start) else max 0 ((now : Int) + r' + lead - start) := by
  rw [placeReadmitted_lateness]
  split_ifs <;> omega

end Place

/-- Settles O34: each component by its cases, and the place in whole numbers from its due time and lateness. -/
theorem leadAndPreparePlacement : Obligations.LeadAndPreparePlacement := by
  unfold Obligations.LeadAndPreparePlacement
  refine ⟨⟨tuneTime_eq, switchTime_eq, fun c predicted wanted => rfl⟩, fun e h t pred i => ?_,
    fun ends r r' lead start now => ?_⟩
  · cases pred with
    | none => rw [rawLead, predictedSetting_none]
    | some p => rw [rawLead, predictedSetting_some, predictedSetting_none]
  · obtain ⟨due, late⟩ := placePrepare_cast ends r r' lead start now
    exact ⟨due, late, placeReadmitted_due .., placeReadmitted_lateness_cast ..⟩

/-! ## The cues of an occurrence (R43, R61, R63) -/

theorem carriesOver_iff (pred : Option Item) (i : Item) : carriesOver pred i = true ↔
    i.readmit = false ∧ ∃ p, pred = some p ∧ i.start = p.stop ∧ i.antenna = p.antenna ∧
      i.setting = p.setting ∧ i.frequency = p.frequency := by
  simp only [carriesOver, Bool.and_eq_true, Bool.not_eq_true', Option.any_eq_true, beq_iff_eq, and_assoc]

section Cues

variable (e : Env) (h : Hall) (t : Nat) (pred : Option Item) (i : Item) (said : Said)

/-- The START or STOP of an occurrence. -/
def edgeCue (kind : CueKind) (due : Nat) (carry : Bool) : Cue where
  kind := kind
  due := due
  transmitter := t
  booking := i.booking
  day := i.day
  lead := 0
  lateness := 0
  clamped := false
  carry := carry
  said := said

/-- Due time and lateness of an occurrence's PREPARE, by R53 for a readmitted one and else by R61. -/
def preparePlace : Nat × Nat :=
  let lead := min (rawLead e h t pred i) 900
  let down := (e.txConfig t).rfDown
  let downNow := if e.rfPresent t then down else 0
  let ends := (pred.map (·.stop)).getD 0
  if i.readmit then placeReadmitted ends down downNow lead i.start e.now
  else placePrepare ends down downNow lead i.start e.now

/-- The PREPARE of an occurrence that is no carry-over. -/
def prepareCue : Cue where
  kind := .prepare
  due := (preparePlace e h t pred i).1
  transmitter := t
  booking := i.booking
  day := i.day
  lead := min (rawLead e h t pred i) 900
  lateness := min (preparePlace e h t pred i).2 65535
  clamped := 900 < rawLead e h t pred i
  carry := false
  said := said

theorem makeGroup_cues : (makeGroup e h t pred i said).cues =
    if carriesOver pred i then [edgeCue t i said .start i.start true, edgeCue t i said .stop i.stop false]
    else [prepareCue e h t pred i said, edgeCue t i said .start i.start false, edgeCue t i said .stop i.stop false] := by
  unfold makeGroup
  cases pred <;> split <;> rfl

theorem makeGroup_kinds : ((makeGroup e h t pred i said).cues.map fun c => (c.kind, c.carry)) =
    if carriesOver pred i then [(.start, true), (.stop, false)]
    else [(.prepare, false), (.start, false), (.stop, false)] := by
  rw [makeGroup_cues]
  split <;> rfl

variable {e h t pred i said}

theorem mem_makeGroup_cues {c : Cue} (mem : c ∈ (makeGroup e h t pred i said).cues) :
    c = prepareCue e h t pred i said ∨ c = edgeCue t i said .start i.start (carriesOver pred i) ∨
      c = edgeCue t i said .stop i.stop false := by
  rw [makeGroup_cues] at mem
  split at mem
  · next carried =>
    rw [carried]
    exact .inr (by simpa using mem)
  · next apart =>
    rw [eq_false_of_ne_true apart]
    simpa using mem

/-- No PREPARE is due before now. -/
theorem now_le_preparePlace : e.now ≤ (preparePlace e h t pred i).1 := by
  unfold preparePlace
  dsimp only
  split
  · rw [placeReadmitted_due]
    exact Nat.le_max_left _ _
  · rw [placePrepare_due]
    exact Nat.le_max_left _ _

end Cues

/-- Settles O35: a cue of the group is its PREPARE, its START or its STOP, and each holds what it was made with. -/
theorem cuesOfAnOccurrence : Obligations.CuesOfAnOccurrence := by
  unfold Obligations.CuesOfAnOccurrence
  refine fun e h t pred i said => ⟨carriesOver_iff pred i, makeGroup_kinds e h t pred i said, fun c mem => ?_⟩
  rcases mem_makeGroup_cues mem with rfl | rfl | rfl
  · exact ⟨rfl, rfl, rfl, rfl, nofun, nofun, fun _ => ⟨rfl, now_le_preparePlace, rfl, decide_eq_true_iff, rfl⟩⟩
  · exact ⟨rfl, rfl, rfl, rfl, fun _ => rfl, nofun, nofun⟩
  · exact ⟨rfl, rfl, rfl, rfl, nofun, fun _ => rfl, nofun⟩

end Sys2Proof.Machine
end

section
/-! RF enable is asserted only while its conditions hold (R67, R97), kept by every step since RF enable is tested last
of all that a command brings about: O46. -/

namespace Sys2Proof.Machine

/-! ## Routes and the settled route (R67) -/

theorem rowRoute_iff (h : Hall) (t a : Nat) :
    rowRoute h t = some a ↔ a < 25 ∧ h.xp t a = .closed ∧ ∀ b, b < 25 → h.xp t b = .closed → b = a := by
  simp only [rowRoute, only_eq_some, closedCols, allCols, filter_range_eq_singleton, beq_iff_eq]

theorem closedRows_eq_singleton (h : Hall) (t a : Nat) :
    closedRows h a = [t] ↔ t < 12 ∧ h.xp t a = .closed ∧ ∀ u, u < 12 → h.xp u a = .closed → u = t := by
  simp only [closedRows, allRows, filter_range_eq_singleton, beq_iff_eq]

theorem colRoute_iff (h : Hall) (t a : Nat) :
    colRoute h a = some t ↔ t < 12 ∧ h.xp t a = .closed ∧ ∀ u, u < 12 → h.xp u a = .closed → u = t := by
  rw [colRoute, only_eq_some, closedRows_eq_singleton]

theorem rowBlocked_iff (h : Hall) (t : Nat) : rowBlocked h t = true ↔ ∃ c, c < 25 ∧ h.xp t c = .stuck := by
  simp [rowBlocked, allCols]

theorem colBlocked_iff (h : Hall) (a : Nat) : colBlocked h a = true ↔ ∃ r, r < 12 ∧ h.xp r a = .stuck := by
  simp [colBlocked, allRows]

theorem movingCols_eq_nil (h : Hall) (t : Nat) : movingCols h t = [] ↔ ∀ c, c < 25 → (h.xp t c).moving = false := by
  simp [movingCols, allCols]

theorem columnReady_iff (e : Env) (h : Hall) (a : Nat) : columnReady e h a = true ↔
    (e.antConfig a).present = true ∧ (h.antenna a).lock = .free ∧ (h.antenna a).change = none := by
  simp [columnReady, and_assoc]

/-- A crosspoint is OPEN when it is neither CLOSED, nor moving, nor STUCK (R65). -/
theorem opened_iff (x : XpState) : x = .opened ↔ x ≠ .closed ∧ x.moving = false ∧ x ≠ .stuck := by
  cases x <;> simp [XpState.moving]

theorem settledRoute_iff (e : Env) (h : Hall) {t : Nat} (lt : t < 12) (a : Nat) : settledRoute e h t = some a ↔
    a < 25 ∧ h.xp t a = .closed ∧ (∀ b, b < 25 → b ≠ a → h.xp t b = .opened) ∧
    (∀ u, u < 12 → h.xp u a = .closed → u = t) ∧
    (e.antConfig a).present = true ∧ (h.antenna a).lock = .free ∧ (h.antenna a).change = none := by
  have unfolded : settledRoute e h t = some a ↔ rowRoute h t = some a ∧ movingCols h t = [] ∧ rowBlocked h t = false ∧
      closedRows h a = [t] ∧ columnReady e h a = true := by
    unfold settledRoute
    cases rowRoute h t with
    | none => simp
    | some b =>
      by_cases same : b = a
      · subst same
        simp [and_assoc]
      · simp [same]
  rw [unfolded, rowRoute_iff, movingCols_eq_nil, Bool.eq_false_iff, ne_eq, rowBlocked_iff, closedRows_eq_singleton,
    columnReady_iff]
  constructor
  · rintro ⟨⟨column, closed, alone⟩, still, free, ⟨-, -, row⟩, ready⟩
    refine ⟨column, closed, fun b lt ne => ?_, row, ready⟩
    exact (opened_iff _).mpr ⟨fun is => ne (alone b lt is), still b lt, fun is => free ⟨b, lt, is⟩⟩
  · rintro ⟨column, closed, others, row, ready⟩
    refine ⟨⟨column, closed, fun b lt is => ?_⟩, fun b lt => ?_, ?_, ⟨lt, closed, row⟩, ready⟩
    · by_contra ne
      exact absurd ((others b lt ne).symm.trans is) nofun
    · by_cases same : b = a
      · rw [same, closed]
        rfl
      · rw [others b lt same]
        rfl
    · rintro ⟨b, lt, stuck⟩
      by_cases same : b = a
      · subst same
        exact absurd (closed.symm.trans stuck) nofun
      · exact absurd ((others b lt same).symm.trans stuck) nofun

/-! ## The conditions of RF enable (R97) -/

theorem mayRadiate_iff (e : Env) (h : Hall) (k power : Nat) : mayRadiate e h k power = true ↔
    (e.txConfig k).present = true ∧ (h.tx k).state ≠ .held ∧
    (e.mode = .running ∨ (e.mode = .stopped ∧ (h.tx k).state = .console)) ∧
    ∃ a f, settledRoute e h k = some a ∧ (h.tx k).tuned = some f ∧
      (∃ w ∈ (e.antConfig a).windows, w.low ≤ f ∧ f ≤ w.high) ∧ power ≤ (e.antConfig a).rating := by
  have mode : (e.mode == .running || ((h.tx k).state == .console && e.mode != .configuring)) = true ↔
      e.mode = .running ∨ (e.mode = .stopped ∧ (h.tx k).state = .console) := by
    cases e.mode <;> simp
  have band (a : Nat) : (h.tx k).tuned.any (inBand (e.antConfig a)) = true ↔
      ∃ f, (h.tx k).tuned = some f ∧ ∃ w ∈ (e.antConfig a).windows, w.low ≤ f ∧ f ≤ w.high := by
    simp only [Option.any_eq_true, inBand_iff]
  unfold mayRadiate
  rw [Bool.and_eq_true, Bool.and_eq_true, Bool.and_eq_true, mode, bne_iff_ne, and_assoc, and_assoc]
  refine and_congr_right fun _ => and_congr_right fun _ => and_congr_right fun _ => ?_
  cases settledRoute e h k with
  | none => simp
  | some a =>
    simp only [Bool.and_eq_true, band, decide_eq_true_eq, Option.some.injEq, exists_and_left, exists_eq_left']
    exact ⟨fun ⟨⟨f, tuned, fits⟩, rated⟩ => ⟨f, tuned, fits, rated⟩, fun ⟨f, tuned, fits, rated⟩ => ⟨⟨f, tuned, fits⟩, rated⟩⟩

/-- The equipment's configuration and the mode stand. -/
def SameConditions (e e' : Env) : Prop :=
  e'.config.txs = e.config.txs ∧ e'.config.antennas = e.config.antennas ∧ e'.mode = e.mode

theorem SameConditions.refl (e : Env) : SameConditions e e := ⟨rfl, rfl, rfl⟩

/-- The conditions look at the configuration of the equipment and at the mode alone. -/
theorem mayRadiate_env {e e' : Env} (same : SameConditions e e') (h : Hall) (t power : Nat) :
    mayRadiate e' h t power = mayRadiate e h t power := by
  obtain ⟨txs, antennas, mode⟩ := same
  obtain ⟨⟨_, _, _⟩, _⟩ := e
  obtain ⟨⟨_, _, _⟩, _⟩ := e'
  subst txs antennas mode
  rfl

theorem settledRoute_matrix {h h' : Hall} (matrix : h'.matrix = h.matrix) (e : Env) (t : Nat) :
    settledRoute e h' t = settledRoute e h t := by
  obtain ⟨⟩ := h
  obtain ⟨⟩ := h'
  subst matrix
  rfl

/-- Of a hall the conditions look at the matrix and at the transmitter alone. -/
theorem mayRadiate_hall {h h' : Hall} {t : Nat} (matrix : h'.matrix = h.matrix) (tx : h'.tx t = h.tx t) (e : Env)
    (power : Nat) : mayRadiate e h' t power = mayRadiate e h t power := by
  unfold mayRadiate
  rw [settledRoute_matrix matrix, tx]

/-! ## RF enable tested (R97) -/

/-- RF enable of a transmitter stands only while its conditions hold. -/
def EnableHolds (e : Env) (h : Hall) (t : Nat) : Prop :=
  (h.tx t).rfEnable = true → mayRadiate e h t ((h.tx t).power.getD 0) = true

theorem EnableHolds.same {e : Env} {h h' : Hall} {t : Nat} (holds : EnableHolds e h t) (matrix : h'.matrix = h.matrix)
    (tx : h'.tx t = h.tx t) : EnableHolds e h' t := by
  unfold EnableHolds
  rw [mayRadiate_hall matrix tx, tx]
  exact holds

theorem enforceOne_matrix (e : Env) (t : Nat) (h : Hall) : (enforceOne e t h).matrix = h.matrix := by
  rw [enforceOne_frame]

theorem enforceOne_holds (e : Env) {t : Nat} (lt : t < 12) (h : Hall) : EnableHolds e (enforceOne e t h) t := by
  unfold enforceOne
  split
  · have off : ¬ ((rfOff e t h).tx t).rfEnable = true := by simp [rfOff_rfEnable e t h lt]
    dsimp only
    split
    · exact fun on => absurd on off
    · exact fun on => absurd on off
  · next fine => exact fun on => by simpa [on] using fine

theorem enforceRf_holds (e : Env) {t : Nat} (lt : t < 12) (h : Hall) : EnableHolds e (enforceRf e h) t := by
  refine forEach_brings (EnableHolds e · t) (mem_allRows.mpr lt) (enforceOne_holds e lt) (fun i h holds => ?_) h
  by_cases same : t = i
  · subst same
    exact enforceOne_holds e lt h
  · exact holds.same (enforceOne_matrix e i h) (enforceOne_tx_ne e i t h same)

/-- What follows from a command ends with the test of RF enable. -/
theorem conclude_holds (e : Env) (waiting : List Nat) {t : Nat} (lt : t < 12) (h : Hall) :
    EnableHolds e (conclude e waiting h) t := by
  unfold conclude settle
  dsimp only
  split
  · exact enforceRf_holds e lt _
  · exact enforceRf_holds e lt _

/-! ## What the commands keep -/

/-- With RF enable withdrawn on every line nothing can radiate (R177). -/
theorem rfSafe_of_dark {s : State} (dark : ∀ t, t < 12 → (s.hall.tx t).rfEnable = false) : RfSafe s :=
  fun t lt on => absurd on (by simp [dark t lt])

/-- A command that acts on the hall leaves RF enable tested, whatever it does. -/
theorem act_rfSafe {s : State} (on : s.power = .running) (f : Hall → Hall) : RfSafe (s.act f) :=
  fun _ lt enabled => ⟨on, conclude_holds s.env _ lt _ enabled⟩

/-- What is made of a command acts on the hall or leaves the conditions of RF enable as they stand. -/
def Verdict.Quiet (e : Env) (v : Verdict) : Prop := v.change = none → SameConditions e v.env

theorem Verdict.quiet_same {v : Verdict} {e : Env} (same : SameConditions e v.env) : v.Quiet e := fun _ => same

theorem Verdict.quiet_acts {v : Verdict} {e : Env} {f : Hall → Hall} (acts : v.change = some f) : v.Quiet e :=
  fun no => absurd (acts.symm.trans no) nofun

section Commands

variable {α : Type} {s : State} (ok : RfSafe s)

include ok

theorem sameConditions_rfSafe {t : State} (hall : t.hall = s.hall) (power : t.power = s.power)
    (env : SameConditions s.env t.env) : RfSafe t := by
  intro k lt on
  rw [hall] at on
  rw [hall, power, mayRadiate_env env]
  exact ok k lt on

theorem setReceiver_rfSafe (link : Link) (r : Receiver) : RfSafe (s.setReceiver link r) := by
  unfold State.setReceiver
  split
  · exact ok
  · exact ok

theorem changing_rfSafe (run : α → Env → Hall → Effect) (on : s.power = .running) (a : α) :
    RfSafe (changing run a s).1 := by
  rcases changing_cases run a s with eq | ⟨f, -, eq⟩
  · rw [eq]
    exact ok
  · rw [eq]
    exact act_rfSafe on f

/-- A command of hall control changes the equipment's configuration and the mode only where it acts on the hall. -/
theorem governing_rfSafe {run : α → Env → Hall → Verdict} (quiet : ∀ a e h, (run a e h).Quiet e)
    (on : s.power = .running) (a : α) : RfSafe (governing run a s).1 := by
  unfold governing
  dsimp only
  split
  · next none' => exact sameConditions_rfSafe ok rfl rfl (quiet a _ _ none')
  · exact act_rfSafe (s := { s with env := (run a s.env s.hall).env }) on _

theorem frameOr_rfSafe {bad : State → Answer} {link : Link} {code : Nat} {tag : Byte} {body : Body α}
    {run : α → State → State × Option Answer} (keeps : s.power = .running → ∀ a, RfSafe (run a s).1) :
    RfSafe (frameOr bad link code tag body run s) := by
  unfold frameOr
  split
  · next taken =>
    split
    · exact ok
    · exact keeps (takes_running taken) _
  · exact setReceiver_rfSafe ok link .waiting

theorem frame_rfSafe {link : Link} {code : Nat} {tag : Byte} {body : Body α} {run : α → State → State × Option Answer}
    (keeps : s.power = .running → ∀ a, RfSafe (run a s).1) : RfSafe (frame link code tag body run s) :=
  frameOr_rfSafe ok keeps

theorem event_rfSafe (env : Env → Env) (run : Env → Hall → Hall) : RfSafe (event env run s) := by
  unfold event
  split
  · next on => exact act_rfSafe (s := { s with env := env s.env }) on _
  · exact ok

theorem expiry_rfSafe (limit : Hall → Option Nat) (run : Env → Hall → Hall) : RfSafe (expiry limit run s) := by
  unfold expiry
  split
  · exact ok
  · exact event_rfSafe ok _ _

theorem surveyOver_rfSafe (e : Env) (sv : Survey) (change : Hall → Hall) : RfSafe (surveyOver e sv change s) := by
  have ended := event_rfSafe ok (fun _ => e) fun e h => (endSurvey e sv (change h)).1
  unfold surveyOver State.deliver
  split
  · exact ended
  · exact ended

theorem contact_rfSafe (r c : Nat) (reading : Reading) : RfSafe (contact r c reading s) := by
  unfold contact
  dsimp only
  repeat' split
  · exact event_rfSafe ok _ _
  · exact surveyOver_rfSafe ok _ _ _
  · exact event_rfSafe ok _ _
  · exact event_rfSafe ok _ _

end Commands

/-! ## What hall control and SET CLOCK make of the conditions -/

theorem setClockRun_quiet (v : ClockValue) (e : Env) (h : Hall) : (setClockRun v e h).Quiet e := by
  unfold setClockRun
  split
  · exact Verdict.quiet_same (.refl e)
  · exact Verdict.quiet_same (.refl e)

theorem configureHallRun_quiet (r : HallRecord) (e : Env) (h : Hall) : (configureHallRun r e h).Quiet e := by
  unfold configureHallRun
  cases configureHallRefusal e h r with
  | none => exact Verdict.quiet_same (.refl e)
  | some code => exact Verdict.quiet_same (.refl e)

theorem commissionRun_quiet (u : Unit) (e : Env) (h : Hall) : (commissionRun u e h).Quiet e := by
  unfold commissionRun
  split
  · exact Verdict.quiet_same (.refl e)
  · exact Verdict.quiet_acts rfl

theorem reconfigureRun_quiet (u : Unit) (e : Env) (h : Hall) : (reconfigureRun u e h).Quiet e := by
  unfold reconfigureRun
  repeat' split
  · exact Verdict.quiet_same (.refl e)
  · exact Verdict.quiet_same (.refl e)
  · exact Verdict.quiet_same (.refl e)
  · exact Verdict.quiet_acts rfl

theorem configureTransmitterRun_quiet (w : TxWrite) (e : Env) (h : Hall) : (configureTransmitterRun w e h).Quiet e := by
  unfold configureTransmitterRun
  repeat' split
  · exact Verdict.quiet_same (.refl e)
  · exact Verdict.quiet_same (.refl e)
  · exact Verdict.quiet_same (.refl e)
  · exact Verdict.quiet_acts rfl

theorem configureAntennaRun_quiet (w : AntWrite) (e : Env) (h : Hall) : (configureAntennaRun w e h).Quiet e := by
  unfold configureAntennaRun
  repeat' split
  · exact Verdict.quiet_same (.refl e)
  · exact Verdict.quiet_same (.refl e)
  · exact Verdict.quiet_same (.refl e)
  · exact Verdict.quiet_acts rfl

theorem hallStopRun_quiet (u : Unit) (e : Env) (h : Hall) : (hallStopRun u e h).Quiet e := by
  unfold hallStopRun
  split
  · exact Verdict.quiet_same (.refl e)
  · exact Verdict.quiet_same (.refl e)
  · exact Verdict.quiet_acts rfl

theorem hallResumeRun_quiet (u : Unit) (e : Env) (h : Hall) : (hallResumeRun u e h).Quiet e := by
  unfold hallResumeRun
  split
  · exact Verdict.quiet_same (.refl e)
  · exact Verdict.quiet_same (.refl e)
  · exact Verdict.quiet_acts rfl

/-! ## Start-ups (R177 to R179) -/

theorem cold_dark (timebase t : Nat) : ((Hall.cold timebase).tx t).rfEnable = false := by
  by_cases lt : t < 12
  · exact congrArg Tx.rfEnable (read_replicate t Tx.start lt)
  · exact congrArg Tx.rfEnable (read_out (n := 12) _ t (Nat.le_of_not_lt lt))

theorem warm_dark (e : Env) (h : Hall) {t : Nat} (lt : t < 12) : ((Hall.warm e h).tx t).rfEnable = false := by
  have sent : ((restartTxs e (restarting e h)).tx t).rfEnable = false := by
    refine forEach_brings (fun h' => (h'.tx t).rfEnable = false) (mem_allRows.mpr lt)
      (fun h' => rfOff_rfEnable e t h' lt) (fun i h' dark => ?_) _
    by_cases same : t = i
    · subst same
      exact rfOff_rfEnable e t h' lt
    · rw [rfOff_tx_ne e i t h' same]
      exact dark
  rw [warm_frame]
  exact sent

theorem coldStart_rfSafe (address : Nat) (s : State) : RfSafe (coldStart address s) :=
  rfSafe_of_dark fun t _ => cold_dark s.env.timebase t

theorem startUp_rfSafe (i : StartInputs) (s : State) : RfSafe (startUp i s) := by
  unfold startUp
  split
  · exact rfSafe_of_dark fun t lt => warm_dark _ _ lt
  · exact coldStart_rfSafe _ s

theorem withdrawAll_dark (h : Hall) {t : Nat} (lt : t < 12) : ((withdrawAll h).tx t).rfEnable = false := by
  rw [withdrawAll_tx lt]

/-! ## The invariant -/

section Invariant

variable {s : State} (ok : RfSafe s)

include ok

theorem setMaskRun_rfSafe (mask : BitVec 32) : RfSafe (setMaskRun mask s).1 := by
  unfold setMaskRun
  split
  · exact ok
  · exact ok

theorem setRateRun_rfSafe (link : Link) (divisor : Nat) : RfSafe (setRateRun link divisor s).1 := by
  unfold setRateRun
  split
  · exact ok
  · exact ok

theorem broadcastClock_rfSafe (body : Body ClockValue) : RfSafe (broadcastClock body s) := by
  have waiting := setReceiver_rfSafe ok .planning .waiting
  unfold broadcastClock
  dsimp only
  repeat' split
  · exact waiting
  · exact sameConditions_rfSafe waiting rfl rfl (.refl _)
  · exact waiting

/-- A command keeps RF enable within its conditions. -/
theorem exec_rfSafe {t : State} (i : Instr) (run : exec i s = .next t) : RfSafe t := by
  have next {s' : State} (ok : RfSafe s')
      (eq : Host.Outcome.next s' = (.next t : Host.Outcome State Fault Refusal)) : RfSafe t := by
    cases eq
    exact ok
  cases i with
  | enter tag body | loadBlock tag body | amend tag body | withdraw tag body | calendarAdd tag body
  | calendarRemove tag body | lockAntenna tag body | freeAntenna tag body | clearSuspect tag body | clearStuck tag body
  | takeLocal tag body | giveRemote tag body | localRoute tag body | localTune tag body | localRfOn tag body
  | localRfOff tag body | clearHeld tag body | takeAmendment tag body | dropAmendment tag body =>
    exact next (frame_rfSafe ok (changing_rfSafe ok _)) run
  | fetch link tag body | list tag body | calendarRead tag body | readCues tag body | readTransmitter link tag body
  | readAntenna link tag body | readRoutes link tag body | poll link tag body | ackAlarm tag body =>
    exact next (frame_rfSafe ok fun _ _ => ok) run
  | setAlarmMask tag body => exact next (frame_rfSafe ok fun _ => setMaskRun_rfSafe ok) run
  | setLinkRate link tag body => exact next (frame_rfSafe ok fun _ => setRateRun_rfSafe ok link) run
  | setClock dest body =>
    cases dest with
    | addressed tag => exact next (frame_rfSafe ok (governing_rfSafe ok setClockRun_quiet)) run
    | broadcast => exact next (broadcastClock_rfSafe ok body) run
  | configureHall tag body => exact next (frameOr_rfSafe ok (governing_rfSafe ok configureHallRun_quiet)) run
  | commission tag body => exact next (frame_rfSafe ok (governing_rfSafe ok commissionRun_quiet)) run
  | reconfigure tag body => exact next (frame_rfSafe ok (governing_rfSafe ok reconfigureRun_quiet)) run
  | configureTransmitter tag body => exact next (frame_rfSafe ok (governing_rfSafe ok configureTransmitterRun_quiet)) run
  | configureAntenna tag body => exact next (frame_rfSafe ok (governing_rfSafe ok configureAntennaRun_quiet)) run
  | hallStop tag body => exact next (frame_rfSafe ok (governing_rfSafe ok hallStopRun_quiet)) run
  | hallResume tag body => exact next (frame_rfSafe ok (governing_rfSafe ok hallResumeRun_quiet)) run
  | unknownCommand link code tag =>
    refine next ?_ run
    split
    · exact ok
    · exact setReceiver_rfSafe ok _ _
  | characterGapTimeout link | linkBreak link | frameDiscard link cause =>
    exact next (setReceiver_rfSafe ok _ _) run
  | responseSent link =>
    refine next ?_ run
    split
    · exact ok
    · exact ok
  | secondPulse time => exact next (event_rfSafe ok _ _) run
  | pulseWatchExpiry =>
    change execPulseWatchExpiry s = _ at run
    unfold execPulseWatchExpiry at run
    split at run
    · exact next ok run
    · exact next (event_rfSafe ok _ _) run
  | internalAdvance =>
    change execInternalAdvance s = _ at run
    unfold execInternalAdvance at run
    split at run
    · exact next ok run
    · exact next (event_rfSafe ok _ _) run
  | contactReport row col reading =>
    refine next ?_ run
    split
    · exact contact_rfSafe ok row col reading
    · exact ok
  | surveyLimit =>
    change execSurveyLimit s = _ at run
    unfold execSurveyLimit at run
    split at run
    · exact next ok run
    · refine next ?_ run
      split
      · exact surveyOver_rfSafe ok _ _ _
      · exact ok
  | settingCompletionReport a x | statusReport k x | tuneComplete k f | detectorConversion k vf vr =>
    exact next (event_rfSafe ok _ _) run
  | moveTimeout row col | settingTimeout a | tuneTimeout k | rfUpTimeout k | rfDownTimeout k | recycleTimerExpiry k
  | cleanRunExpiry k => exact next (expiry_rfSafe ok _ _) run
  | powerUp inputs | restartReleased inputs =>
    refine next ?_ run
    split
    · exact startUp_rfSafe inputs s
    · exact ok
  | restartHeld5s lines =>
    refine next ?_ run
    split
    · exact coldStart_rfSafe lines _
    · exact ok
  | restartAsserted =>
    refine next ?_ run
    split
    · exact rfSafe_of_dark fun t lt => withdrawAll_dark s.hall lt
    · exact ok
  | mainSupplyLoss =>
    refine next ?_ run
    split
    · exact ok
    · exact rfSafe_of_dark fun t lt => withdrawAll_dark s.hall lt

theorem idle_rfSafe : RfSafe (idle s) := by
  cases power : s.power with
  | running =>
    rw [idle_running power]
    exact sameConditions_rfSafe ok rfl rfl (.refl _)
  | halted since =>
    rw [idle_halted power]
    exact sameConditions_rfSafe ok rfl rfl (.refl _)
  | absent =>
    rw [idle_absent power]
    exact ok

end Invariant

/-- Settles O46: whatever a command does to the hall, RF enable is tested last; the other commands leave the conditions
of RF enable as they stand, or withdraw it on every line. -/
theorem rfEnableOnlyWhileItsConditionsHold : Obligations.RfEnableOnlyWhileItsConditionsHold := by
  unfold Obligations.RfEnableOnlyWhileItsConditionsHold
  refine ⟨fun s t ok run => ?_, mayRadiate_iff, fun e h t a =>
    ⟨rowRoute_iff h t a, colRoute_iff h t a, fun lt => settledRoute_iff e h lt a⟩⟩
  unfold step at run
  split at run
  · cases run
    exact idle_rfSafe ok
  · next i rest _ => exact exec_rfSafe (s := { s with pending := rest }) ok i run

end Sys2Proof.Machine
end


section
/-! READ ANTENNA, READ TRANSMITTER and READ ROUTES (R67, R88, R92, R111): O27, O28. -/

namespace Sys2Proof.Machine

/-! ## READ ANTENNA (R88) -/

theorem azimuth_eq (e : Env) (h : Hall) (a : Nat) : azimuth e h a =
    match (h.antenna a).setting with
    | none => none
    | some x =>
      if a = 24 then none
      else some (((((e.antConfig a).bearing : Nat) : Int) + 5 * x.slew +
        (match x.dir with | .forward => 0 | .reverse => 180)) % 360).toNat := by
  unfold azimuth
  rcases (h.antenna a).setting with _ | ⟨slew, dir⟩
  · exact ite_self none
  · cases dir <;> rfl

/-- Settles O27: the answer is the record that the model reads, with the azimuth of R88. -/
theorem readAntennaAnswer : Obligations.ReadAntennaAnswer := by
  unfold Obligations.ReadAntennaAnswer
  intro s link tag a yes
  refine congrArg _ ((reading_answered yes).trans ?_)
  unfold readAntennaRun
  rw [azimuth_eq]
  rfl

/-! ## READ TRANSMITTER (R111) -/

/-- Seconds left are whole seconds rounded down or up (R111, R192). -/
theorem rounded_seconds (left : Nat) (free : BitVec 16) :
    (left / 1000 + if left % 1000 = 0 then 0 else free.toNat % 2) = left / 1000 ∨
    (left / 1000 + if left % 1000 = 0 then 0 else free.toNat % 2) = (left + 999) / 1000 := by
  split <;> omega

theorem secondsLeft_none {e : Env} {x : Tx} (free : BitVec 16) (idle : x.tune = none) : secondsLeft e x free = none := by
  rw [secondsLeft, idle]
  rfl

theorem secondsLeft_some {e : Env} {x : Tx} {u : Tune} (free : BitVec 16) (tuning : x.tune = some u) :
    let rest := match u.ends with
      | some limit => limit - e.timebase
      | none => u.limit
    secondsLeft e x free = some (rest / 1000) ∨ secondsLeft e x free = some ((rest + 999) / 1000) := by
  intro rest
  have eq : secondsLeft e x free = some (rest / 1000 + if rest % 1000 = 0 then 0 else free.toNat % 2) := by
    rw [secondsLeft, tuning]
    rfl
  rw [eq, Option.some.injEq, Option.some.injEq]
  exact rounded_seconds rest free

theorem exec_readTransmitter {s : State} {link : Link} (tag : Byte) (k : Nat) (yes : s.takes link = true) :
    exec (.readTransmitter link tag (.fields k)) s = .next (State.reply
      { s with links := { s.links with draws := s.links.draws + 1 } } link 12 tag
        (some (readTransmitterRun (Config.freeSeconds s.links.draws) k s.env s.hall))) :=
  congrArg _ (frame_fields yes)

/-! ## READ ROUTES (R67, R92) -/

theorem mem_allCrosspoints (x : RowCol) : x ∈ allCrosspoints ↔ x.row < 12 ∧ x.col < 25 := by
  obtain ⟨r, c⟩ := x
  simp only [allCrosspoints, List.mem_flatMap, List.mem_map, List.mem_range, RowCol.mk.injEq]
  exact ⟨fun ⟨_, row, _, column, is, is'⟩ => ⟨is ▸ row, is' ▸ column⟩, fun ⟨row, column⟩ => ⟨r, row, c, column, rfl, rfl⟩⟩

/-- A crosspoint is listed unless it is OPEN and reads so (R92). -/
theorem listed_iff (x : XpState) (reading : Reading) :
    (x != .opened || !agrees x reading) = true ↔ ¬ (x = .opened ∧ reading = .opened) := by
  cases x <;> cases reading <;> simp [agrees]

theorem mem_listedFrom (e : Env) (h : Hall) (first : Nat) (x : XpView) : x ∈ listedFrom e h first ↔
    ∃ r c, r < 12 ∧ c < 25 ∧ first ≤ r * 25 + c ∧
      x = { number := r * 25 + c, state := h.xp r c, reading := e.reading r c } ∧
      ¬ (h.xp r c = .opened ∧ e.reading r c = .opened) := by
  simp only [listedFrom, List.mem_map, List.mem_filter, mem_allCrosspoints, Bool.and_eq_true, decide_eq_true_eq, listed_iff]
  constructor
  · rintro ⟨⟨r, c⟩, ⟨⟨row, column⟩, from', shown⟩, is⟩
    exact ⟨r, c, row, column, from', is.symm, shown⟩
  · rintro ⟨r, c, row, column, from', is, shown⟩
    exact ⟨⟨r, c⟩, ⟨⟨row, column⟩, from', shown⟩, is.symm⟩

theorem exec_readRoutes {s : State} {link : Link} (tag : Byte) (first : Nat) (yes : s.takes link = true) :
    exec (.readRoutes link tag (.fields first)) s =
      .next (s.reply link 14 tag (some (readRoutesRun first s.env s.hall))) :=
  congrArg _ (reading_answered yes)

theorem readRoutesRun_eq (first : Nat) (e : Env) (h : Hall) : readRoutesRun first e h =
    if 299 < first then Answer.code .format
    else
      { result := .done
        body := .routes
          (allRows.map fun t => { route := rowRoute h t, blocked := rowBlocked h t, moving := (movingCols h t).head? })
          (allCols.map fun a => { route := colRoute h a, blocked := colBlocked h a, claim := h.claim a })
          ((List.range 4).map fun i => (read h.matrix.slots i).map (·.move)) h.matrix.queue
          (crosspointRoom h.matrix.queue.length < (listedFrom e h first).length)
          ((listedFrom e h first).take (crosspointRoom h.matrix.queue.length)) } := rfl

theorem readTransmitterRun_eq (free : BitVec 16) (k : Nat) (e : Env) (h : Hall) : readTransmitterRun free k e h =
    if 11 < k then Answer.code .format
    else
      { result := .done
        body := .transmitter k (e.txConfig k) (h.tx k) (e.indications k) (secondsLeft e (h.tx k) free)
          ((h.carriage k).map fun c => (c.booking, c.phase)) (h.monitor k).tripCount (h.monitor k).displayed } := rfl

theorem rowRoute_iff_closed (h : Hall) (t : Nat) {a : Nat} (lt : a < 25) :
    rowRoute h t = some a ↔ ∀ c, c < 25 → (h.xp t c = .closed ↔ c = a) := by
  rw [rowRoute_iff]
  exact ⟨fun ⟨_, closed, alone⟩ c column => ⟨alone c column, fun is => is ▸ closed⟩,
    fun alone => ⟨lt, (alone a lt).mpr rfl, fun b column => (alone b column).mp⟩⟩

theorem colRoute_iff_closed (h : Hall) {t : Nat} (a : Nat) (lt : t < 12) :
    colRoute h a = some t ↔ ∀ r, r < 12 → (h.xp r a = .closed ↔ r = t) := by
  rw [colRoute_iff]
  exact ⟨fun ⟨_, closed, alone⟩ r row => ⟨alone r row, fun is => is ▸ closed⟩,
    fun alone => ⟨lt, (alone t lt).mpr rfl, fun r row => (alone r row).mp⟩⟩

/-- Settles O28: READ TRANSMITTER rounds by the free value it draws; READ ROUTES reads the matrix. -/
theorem transmitterAndRoutesRead : Obligations.TransmitterAndRoutesRead := by
  unfold Obligations.TransmitterAndRoutesRead
  refine ⟨fun s link tag k yes => ⟨secondsLeft s.env (s.hall.tx k) (Config.freeSeconds s.links.draws), ?_,
      secondsLeft_none _, fun u => secondsLeft_some _⟩,
    fun s link tag first yes => ?_, mem_listedFrom, fun _ => rfl, fun h t a row column =>
      ⟨rowRoute_iff_closed h t column, colRoute_iff_closed h a row, rowBlocked_iff h t, colBlocked_iff h a⟩⟩
  · rw [exec_readTransmitter tag k yes, readTransmitterRun_eq]
  · rw [exec_readRoutes tag first yes, readRoutesRun_eq]

end Sys2Proof.Machine
end


section
/-! RF OFF and the entry into HELD (R75, R96, R100, R106, R107): O47. -/

namespace Sys2Proof.Machine

/-! ## RF OFF (R96, R100, R106) -/

/-- A transmitter whose RF enable is withdrawn, its RF-up watch and its waiting RF ON with it (R100, R106). -/
def Tx.silenced (x : Tx) : Tx := { x with rfEnable := false, rfUp := none, rfOn := none }

section RfOff

variable {e : Env} {t : Nat} (h : Hall)

theorem rfOff_absent (absent : (e.txConfig t).present = false) : rfOff e t h = h.setTx t Tx.silenced := by
  simp only [rfOff, sendTx, absent, Bool.not_false, if_true, Bool.false_eq_true, if_false]
  rfl

theorem rfOff_dark (present : (e.txConfig t).present = true) (dark : e.rfPresent t = false) :
    rfOff e t h = raise (.rfOff t) (send (.rfOff t) (h.setTx t Tx.silenced)) := by
  simp only [rfOff, sendTx, present, dark, Bool.not_true, Bool.not_false, Bool.false_eq_true, if_true, if_false]
  rfl

theorem rfOff_live (present : (e.txConfig t).present = true) (live : e.rfPresent t = true) :
    rfOff e t h =
      if ((send (.rfOff t) (h.setTx t Tx.silenced)).tx t).rfDown.isSome = true then
        send (.rfOff t) (h.setTx t Tx.silenced)
      else (send (.rfOff t) (h.setTx t Tx.silenced)).setTx t fun x =>
        { x with rfDown := some (e.after (((e.txConfig t).rfDown + 5) * 1000)) } := by
  simp only [rfOff, sendTx, present, live, Bool.not_true, Bool.false_eq_true, if_true, if_false]
  rfl

theorem rfOff_tx (lt : t < 12) : (rfOff e t h).tx t =
    { h.tx t with rfEnable := false, rfUp := none, rfOn := none
                  rfDown := if (e.txConfig t).present = true ∧ e.rfPresent t = true ∧ (h.tx t).rfDown = none then
                      some (e.timebase + ((e.txConfig t).rfDown + 5) * 1000) else (h.tx t).rfDown } := by
  have off : (h.setTx t Tx.silenced).tx t = (h.tx t).silenced := tx_setTx_same h t _ lt
  cases present : (e.txConfig t).present with
  | false =>
    rw [rfOff_absent h present, off]
    simp [Tx.silenced]
  | true =>
    cases live : e.rfPresent t with
    | false =>
      rw [rfOff_dark h present live]
      refine Eq.trans off ?_
      simp [Tx.silenced]
    | true =>
      have sent : (send (.rfOff t) (h.setTx t Tx.silenced)).tx t = (h.tx t).silenced := off
      cases watch : (h.tx t).rfDown with
      | none =>
        rw [rfOff_tx_live lt present live watch]
        simp
      | some limit =>
        have watched : ((send (.rfOff t) (h.setTx t Tx.silenced)).tx t).rfDown.isSome = true := by
          simp [sent, Tx.silenced, watch]
        rw [rfOff_live h present live, if_pos watched, sent]
        simp [Tx.silenced, watch]

theorem rfOff_orders : (rfOff e t h).orders = h.orders ++ (if (e.txConfig t).present then [.rfOff t] else []) := by
  cases present : (e.txConfig t).present with
  | false =>
    rw [rfOff_absent h present]
    simp
  | true =>
    cases live : e.rfPresent t with
    | false =>
      rw [rfOff_dark h present live]
      simp
    | true =>
      rw [rfOff_live h present live]
      split <;> simp

theorem rfOff_agenda : (rfOff e t h).agenda = h.agenda ++
    (if (e.txConfig t).present = true ∧ e.rfPresent t = false then [.rfOff t] else []) := by
  cases present : (e.txConfig t).present with
  | false =>
    rw [rfOff_absent h present]
    simp
  | true =>
    cases live : e.rfPresent t with
    | false =>
      rw [rfOff_dark h present live]
      simp
    | true =>
      rw [rfOff_live h present live]
      split <;> simp

end RfOff

/-! ## The entry into HELD (R75, R107) -/

section Held

variable {e : Env} {t : Nat} {h : Hall}

theorem enterHeld_already {reason : HeldReason} (held : (h.tx t).state = .held) : enterHeld e t reason h = h := if_pos held

theorem leaveLocal_tx (t u : Nat) (h : Hall) : (leaveLocal t h).tx u = h.tx u := by
  rw [leaveLocal_frame]
  rfl

theorem leaveLocal_matrix (t : Nat) (h : Hall) : (leaveLocal t h).matrix =
    if (h.route t).any (·.isLocal) = true then (withdrawRoute t h).matrix else h.matrix := by
  unfold leaveLocal
  split <;> rfl

/-- A transmitter on its entry into HELD, its LOCAL route withdrawn, before RF OFF is sent (R75, R107). -/
def heldFor (t : Nat) (reason : HeldReason) (h : Hall) : Hall :=
  leaveLocal t (h.setTx t fun x => { x with state := .held, reason := some reason })

/-- A transmitter that loses its tunes, with an outstanding one its tuned frequency (R107). -/
def Tx.untuned (x : Tx) : Tx :=
  { x with tuned := if x.tune.isSome then none else x.tuned, tune := none, pendingTune := none }

theorem enterHeld_eq (reason : HeldReason) (free : (h.tx t).state ≠ .held) : enterHeld e t reason h =
    raiseFirst (.held t) (post e .held t (((rfOff e t (heldFor t reason h)).setTx t Tx.untuned).setMonitor t fun m =>
      { m with recycle := none, cleanRun := none })) := if_neg free

theorem heldFor_tx (reason : HeldReason) (lt : t < 12) :
    (heldFor t reason h).tx t = { h.tx t with state := .held, reason := some reason } := by
  rw [heldFor, leaveLocal_tx, tx_setTx_same _ _ _ lt]

theorem heldFor_frame (reason : HeldReason) :
    heldFor t reason h = { h with matrix := (heldFor t reason h).matrix, txs := (heldFor t reason h).txs } := by
  rw [heldFor, leaveLocal_frame]
  rfl

theorem enterHeld_tx (reason : HeldReason) (lt : t < 12) (free : (h.tx t).state ≠ .held) : (enterHeld e t reason h).tx t =
    { (rfOff e t h).tx t with state := .held, reason := some reason, tune := none, pendingTune := none
                              tuned := if (h.tx t).tune.isSome then none else (h.tx t).tuned } := by
  rw [enterHeld_eq reason free]
  refine (tx_setTx_same (rfOff e t (heldFor t reason h)) t Tx.untuned lt).trans ?_
  rw [rfOff_tx _ lt, rfOff_tx _ lt, heldFor_tx reason lt]
  rfl

theorem enterHeld_tx_ne {u : Nat} (reason : HeldReason) (free : (h.tx t).state ≠ .held) (ne : u ≠ t) :
    (enterHeld e t reason h).tx u = h.tx u := by
  rw [enterHeld_eq reason free]
  refine (tx_setTx_ne (rfOff e t (heldFor t reason h)) t u Tx.untuned ne).trans ?_
  rw [rfOff_tx_ne _ _ _ _ ne, heldFor, leaveLocal_tx, tx_setTx_ne _ _ _ _ ne]

theorem enterHeld_monitor (reason : HeldReason) (lt : t < 12) (free : (h.tx t).state ≠ .held) :
    (enterHeld e t reason h).monitor t = { h.monitor t with recycle := none, cleanRun := none } := by
  rw [enterHeld_eq reason free]
  refine (monitor_setMonitor_same _ t _ lt).trans ?_
  rw [rfOff_frame, heldFor_frame]
  rfl

theorem enterHeld_attention (reason : HeldReason) (free : (h.tx t).state ≠ .held) :
    (enterHeld e t reason h).attention = h.attention.post e.mask .held t := by
  rw [enterHeld_eq reason free, rfOff_frame, heldFor_frame]
  rfl

theorem enterHeld_orders (reason : HeldReason) (free : (h.tx t).state ≠ .held) :
    (enterHeld e t reason h).orders = (rfOff e t h).orders := by
  rw [enterHeld_eq reason free]
  refine (rfOff_orders (heldFor t reason h)).trans ?_
  rw [rfOff_orders, heldFor_frame]

theorem enterHeld_matrix (reason : HeldReason) (free : (h.tx t).state ≠ .held) : (enterHeld e t reason h).matrix =
    if (h.route t).any (·.isLocal) = true then (withdrawRoute t h).matrix else h.matrix := by
  rw [enterHeld_eq reason free, rfOff_frame]
  exact leaveLocal_matrix t _

end Held

/-- Settles O47: RF OFF and the entry into HELD, field by field. -/
theorem rfOffAndHeldEntry : Obligations.RfOffAndHeldEntry := by
  unfold Obligations.RfOffAndHeldEntry
  refine ⟨fun e t h lt => ⟨rfOff_tx h lt, rfOff_orders h, rfOff_agenda h, fun u => rfOff_tx_ne e t u h, rfOff_frame e t h⟩,
    fun e t reason h lt => ⟨enterHeld_already, fun free => ⟨enterHeld_tx reason lt free, ?_, ?_,
      enterHeld_attention reason free, enterHeld_orders reason free, enterHeld_matrix reason free, fun u =>
      enterHeld_tx_ne reason free⟩⟩⟩
  · rw [enterHeld_monitor reason lt free]
  · rw [enterHeld_monitor reason lt free]

end Sys2Proof.Machine
end


section
/-! Column claims: refused, granted, released (R76, R77): O41. -/

namespace Sys2Proof.Machine

/-! ## What a refusal names (R76) -/

/-- The first of the tests that holds, and what it is answered with. -/
theorem firstHolding_cons {α : Type} (p : Bool) (r : α) (rest : List (Bool × α)) :
    (((p, r) :: rest).find? (·.1)).map (·.2) = if p = true then some r else (rest.find? (·.1)).map (·.2) := by
  cases p <;> rfl

theorem claimRefusal_eq (e : Env) (h : Hall) (t a : Nat) : claimRefusal e h t a =
    (([(!(e.antConfig a).present, .absent), (decide ((h.antenna a).lock ≠ .free), .locked),
       ((h.antenna a).suspect, .suspect), (colBlocked h a, .blocked),
       ((h.claim a).any (· != t), .claimed)] : List (Bool × ClaimRefusal)).find? (·.1)).map (·.2) := by
  have locked : ((h.antenna a).lock != .free) = decide ((h.antenna a).lock ≠ .free) := by
    cases (h.antenna a).lock <;> rfl
  simp only [firstHolding_cons, ← locked]
  rfl

theorem any_ne_eq_false (o : Option Nat) (t : Nat) : o.any (· != t) = false ↔ ∀ u, o = some u → u = t := by
  cases o <;> simp

/-! ## A claim granted (R76) -/

section Grant

variable {e : Env} {t a : Nat} {h : Hall}

theorem claim_out {b : Nat} (out : 25 ≤ b) : h.claim b = none := read_out h.matrix.claims b out

/-- A claim that is granted moves whatever claim the transmitter holds (R76). -/
theorem grantClaim_moves (granted : claimAnswer e h t a = none) (other : h.claim a ≠ some t) :
    grantClaim e t a h = (releaseAny t h).setClaim a (some t) := by
  unfold grantClaim
  rw [if_neg (by simp [granted, other])]

/-- A claim of another transmitter stands when a transmitter's own is released (R77). -/
theorem releaseAny_claim_other {b u : Nat} (ne : u ≠ t) : (releaseAny t h).claim b = some u ↔ h.claim b = some u := by
  unfold releaseAny
  cases held : claimOf h t with
  | none => exact Iff.rfl
  | some c =>
    obtain ⟨column, claimed, -⟩ := claimOf_eq_some.mp held
    by_cases same : b = c
    · subst same
      simp [releaseClaim_claim_same column, claimed, ne.symm]
    · dsimp only
      rw [releaseClaim_claim_ne same]

theorem grantClaim_granted (granted : claimAnswer e h t a = none) (lt : a < 25)
    (one : ∀ b c, h.claim b = some t → h.claim c = some t → b = c) :
    (grantClaim e t a h).claim a = some t ∧
    (∀ b, (grantClaim e t a h).claim b = some t → b = a) ∧
    ∀ b u, b ≠ a → u ≠ t → ((grantClaim e t a h).claim b = some u ↔ h.claim b = some u) := by
  by_cases held : h.claim a = some t
  · rw [grantClaim_kept e t a h (Or.inr held)]
    exact ⟨held, fun b claimed => one b a claimed held, fun _ _ _ _ => Iff.rfl⟩
  · rw [grantClaim_moves granted held]
    refine ⟨claim_setClaim_same _ a _ lt, fun b claimed => ?_, fun b u ne other => ?_⟩
    · by_contra ne
      rw [claim_setClaim_ne _ _ _ _ ne] at claimed
      by_cases column : b < 25
      · exact releaseAny_claim one column claimed
      · exact absurd ((claim_out (Nat.le_of_not_lt column)).symm.trans claimed) nofun
    · rw [claim_setClaim_ne _ _ _ _ ne]
      exact releaseAny_claim_other other

end Grant

/-! ## A claim released (R77) -/

theorem route_setRoute_same (h : Hall) (t : Nat) (q : Option RouteRequest) (lt : t < 12) : (h.setRoute t q).route t = q :=
  read_write_same h.matrix.routes t q lt

theorem route_setRoute_ne (h : Hall) (t u : Nat) (q : Option RouteRequest) (ne : u ≠ t) :
    (h.setRoute t q).route u = h.route u := read_write_ne h.matrix.routes t u q ne

theorem withdrawRoute_route (h : Hall) {t : Nat} (lt : t < 12) : (withdrawRoute t h).route t = none :=
  route_setRoute_same _ t none lt

theorem releaseClaim_route (h : Hall) {t : Nat} (a : Nat) (lt : t < 12) : (releaseClaim t a h).route t = none :=
  withdrawRoute_route (h.setClaim a none) lt

/-- Settles O41: a claim granted moves the transmitter's own, and one released leaves the others. -/
theorem claimsAreExclusive : Obligations.ClaimsAreExclusive := by
  unfold Obligations.ClaimsAreExclusive
  refine ⟨fun e h t a => ⟨claimRefusal_eq e h t a, rfl, ?_⟩,
    fun e t a h => ⟨grantClaim_kept e t a h, fun granted _ lt one => grantClaim_granted granted lt one⟩,
    fun t a h row column => ⟨releaseClaim_claim_same column, releaseClaim_wanted column, releaseClaim_route h a row,
      fun b => releaseClaim_claim_ne⟩⟩
  rw [claimable_iff, any_ne_eq_false]

end Sys2Proof.Machine
end


section
/-! What a request for a move and a route request change: queued moves, held opens, route requests and reports (R70,
R74, R75, R78 to R80). -/

namespace Sys2Proof.Machine

/-- Only the queued moves, those that wait for room, the held opens, the route requests and the reports differ. -/
def OnlyMoves (h h' : Hall) : Prop :=
  h' = { h with
    agenda := h'.agenda
    matrix := { h.matrix with queue := h'.matrix.queue, overflow := h'.matrix.overflow
                              heldOpens := h'.matrix.heldOpens, routes := h'.matrix.routes } }

theorem OnlyMoves.refl (h : Hall) : OnlyMoves h h := rfl

theorem OnlyMoves.trans {a b c : Hall} (ab : OnlyMoves a b) (bc : OnlyMoves b c) : OnlyMoves a c := by
  unfold OnlyMoves at *
  rw [bc, ab]

section Frames

variable {h h' : Hall} (only : OnlyMoves h h')

include only

theorem OnlyMoves.xp (r c : Nat) : h'.xp r c = h.xp r c := by rw [show h' = _ from only]; rfl
theorem OnlyMoves.claim (a : Nat) : h'.claim a = h.claim a := by rw [show h' = _ from only]; rfl
theorem OnlyMoves.antenna (a : Nat) : h'.antenna a = h.antenna a := by rw [show h' = _ from only]; rfl
theorem OnlyMoves.tx (t : Nat) : h'.tx t = h.tx t := by rw [show h' = _ from only]; rfl
theorem OnlyMoves.carriage (t : Nat) : h'.carriage t = h.carriage t := by rw [show h' = _ from only]; rfl
theorem OnlyMoves.slots : h'.matrix.slots = h.matrix.slots := by rw [show h' = _ from only]
theorem OnlyMoves.survey : h'.matrix.survey = h.matrix.survey := by rw [show h' = _ from only]
theorem OnlyMoves.txs : h'.txs = h.txs := by rw [show h' = _ from only]
theorem OnlyMoves.carriages : h'.carriages = h.carriages := by rw [show h' = _ from only]
theorem OnlyMoves.orders : h'.orders = h.orders := by rw [show h' = _ from only]
theorem OnlyMoves.attention : h'.attention = h.attention := by rw [show h' = _ from only]

end Frames

theorem onlyMoves_raise (r : Report) (h : Hall) : OnlyMoves h (raise r h) := rfl

theorem onlyMoves_setRoute (t : Nat) (q : Option RouteRequest) (h : Hall) : OnlyMoves h (h.setRoute t q) := rfl

theorem onlyMoves_withdrawRoute (t : Nat) (h : Hall) : OnlyMoves h (withdrawRoute t h) := rfl

theorem onlyMoves_foldl {α : Type} (l : List α) (f : Hall → α → Hall) (each : ∀ h a, OnlyMoves h (f h a)) (h : Hall) :
    OnlyMoves h (l.foldl f h) :=
  foldl_keeps (OnlyMoves h) l f (fun a _ h' only => only.trans (each h' a)) h (.refl h)

theorem onlyMoves_forEach (l : List Nat) (f : Nat → Hall → Hall) (each : ∀ i h, OnlyMoves h (f i h)) (h : Hall) :
    OnlyMoves h (forEach l f h) := onlyMoves_foldl l _ (fun h i => each i h) h

theorem onlyMoves_drainOverflow (h : Hall) : OnlyMoves h (drainOverflow h) := rfl

theorem onlyMoves_enqueue (m : Move) (h : Hall) : OnlyMoves h (enqueue m h) := rfl

theorem onlyMoves_mergeInto (m : Move) (h : Hall) : OnlyMoves h (h.mapMatrix (mergeInto m)) := by
  unfold OnlyMoves Hall.mapMatrix mergeInto
  dsimp only
  repeat' split
  all_goals rfl

theorem onlyMoves_askMove (m : Move) (h : Hall) : OnlyMoves h (askMove m h) := by
  unfold askMove
  dsimp only
  repeat' split
  · exact .refl h
  · exact .refl h
  · exact .refl h
  · exact onlyMoves_mergeInto m h
  · rfl
  · exact onlyMoves_enqueue m h

theorem onlyMoves_askSafetyOpen (who : Asker) (r c : Nat) (h : Hall) : OnlyMoves h (askSafetyOpen who r c h) :=
  onlyMoves_askMove _ h

theorem onlyMoves_openColumn (who : Asker) (a : Nat) (h : Hall) : OnlyMoves h (openColumn who a h) :=
  onlyMoves_forEach _ _ (fun t => onlyMoves_askSafetyOpen who t a) h

theorem onlyMoves_tellRouteDone (t a : Nat) (ofConsole : Bool) (h : Hall) : OnlyMoves h (tellRouteDone t a ofConsole h) := by
  unfold tellRouteDone
  split <;> rfl

theorem onlyMoves_tellRouteFailed (t : Nat) (q : RouteRequest) (why : RouteFailure) (h : Hall) :
    OnlyMoves h (tellRouteFailed t q why h) := by
  unfold tellRouteFailed
  repeat' split
  all_goals rfl

theorem onlyMoves_routeStep (t : Nat) (h : Hall) : OnlyMoves h (routeStep t h) := by
  unfold routeStep
  repeat' split
  · exact .refl h
  · exact .refl h
  · exact onlyMoves_setRoute t none h
  · exact (onlyMoves_setRoute t none h).trans (onlyMoves_tellRouteDone _ _ _ _)
  · exact (onlyMoves_setRoute t _ h).trans (onlyMoves_askMove _ _)

theorem onlyMoves_routeSawOpen (r c t : Nat) (h : Hall) : OnlyMoves h (routeSawOpen r c t h) := by
  unfold routeSawOpen
  repeat' split
  · exact .refl h
  · exact (onlyMoves_setRoute t _ h).trans (onlyMoves_routeStep t _)
  · exact .refl h

theorem onlyMoves_beginRoute (t : Nat) (a : Option Nat) (ofConsole : Bool) (opens : List RowCol) (h : Hall) :
    OnlyMoves h (beginRoute t a ofConsole opens h) :=
  ((onlyMoves_setRoute t _ h).trans (onlyMoves_foldl opens _ (fun h _ => onlyMoves_askMove _ h) _)).trans
    (onlyMoves_routeStep t _)

theorem onlyMoves_askRoute (t a : Nat) (h : Hall) : OnlyMoves h (askRoute t a h) := by
  have withdrawn := onlyMoves_withdrawRoute t h
  unfold askRoute
  dsimp only
  repeat' split
  · exact withdrawn.trans (onlyMoves_raise _ _)
  · exact withdrawn.trans (onlyMoves_raise _ _)
  · exact withdrawn.trans (onlyMoves_raise _ _)
  · exact withdrawn.trans (onlyMoves_beginRoute _ _ _ _ _)

theorem onlyMoves_failRoute (r c t : Nat) (h : Hall) : OnlyMoves h (failRoute r c t h) := by
  have withdrawn := onlyMoves_withdrawRoute t h
  unfold failRoute
  repeat' split
  · exact .refl h
  · exact withdrawn.trans (onlyMoves_tellRouteFailed _ _ _ _)
  · exact withdrawn.trans (onlyMoves_tellRouteFailed _ _ _ _)
  · exact .refl h

theorem onlyMoves_failLocked (a t : Nat) (h : Hall) : OnlyMoves h (failLocked a t h) := by
  unfold failLocked
  repeat' split
  · exact onlyMoves_withdrawRoute t h
  · exact .refl h
  · exact (onlyMoves_setRoute t none h).trans (onlyMoves_tellRouteFailed _ _ _ _)
  · exact .refl h
  · exact .refl h

theorem colRoute_of_xp {h h' : Hall} (same : ∀ r c, h'.xp r c = h.xp r c) (a : Nat) : colRoute h' a = colRoute h a := by
  simp only [colRoute, closedRows, same]

end Sys2Proof.Machine
end


section
/-! A move's timer at its limit, and a crosspoint STUCK (R65, R73 to R75, R79): O38. -/

namespace Sys2Proof.Machine

/-! ## A crosspoint STUCK (R65, R74) -/

theorem setStuck_xp_ne (e : Env) {r c r' c' : Nat} (h : Hall) (ne : ¬ (r' = r ∧ c' = c)) :
    (setStuck e r c h).xp r' c' = h.xp r' c' :=
  xp_setXp_ne h r c r' c' .stuck (Decidable.not_and_iff_or_not.mp ne)

theorem moving_iff (x : XpState) : x.moving = true ↔ x = .closing ∨ x = .opening := by
  cases x <;> simp [XpState.moving]

theorem dropAsker_eq (who : Asker) (l : List Move) : dropAsker who l = l.filterMap fun m =>
    if who ∈ m.askers then
      if m.askers.filter (· ≠ who) = [] then none else some { m with askers := m.askers.filter (· ≠ who) }
    else some m := by
  have others (l : List Asker) : l.filter (· != who) = l.filter (· ≠ who) :=
    List.filter_congr fun x _ => by simp [bne, beq_eq_decide]
  simp only [dropAsker, List.contains_iff_mem, List.isEmpty_iff, others]

theorem failRoute_some {r c t : Nat} {q : RouteRequest} {h : Hall} (asked : h.route t = some q) : failRoute r c t h =
    if t = r ∨ q.column = some c then
      match q.column with
      | some a =>
        if q.isLocal then withdrawRoute t h
        else raise (.routeFailed t a (if t = r then .rowBlocked else .columnBlocked)) (withdrawRoute t h)
      | none => withdrawRoute t h
    else h := by
  by_cases row : t = r
  · subst row
    simp only [failRoute, asked, if_true, true_or]
    rfl
  · simp only [failRoute, asked, row, if_false, false_or]
    rfl

/-- The crosspoint's own moves and every close of its row and column taken away (R74). -/
def movesCleared (r c : Nat) (h : Hall) : Hall :=
  let stays := fun x : Move => !(x.row == r && x.col == c) && !(x.close && (x.row == r || x.col == c))
  h.mapMatrix fun m =>
    { m with queue := m.queue.filter stays, overflow := m.overflow.filter stays
             heldOpens := m.heldOpens.filter fun x => !(x.row == r && x.col == c) }

/-- The route requests of the row and into the column failed, and the carriage of the row told (R74, R79). -/
def rowTold (r c : Nat) (h : Hall) : Hall :=
  let failed := forEach allRows (failRoute r c) (movesCleared r c h)
  if (h.carriage r).isSome = true then raise (.rowBlocked r) failed else failed

theorem onlyMoves_failed (r c : Nat) (h : Hall) : OnlyMoves h (forEach allRows (failRoute r c) (movesCleared r c h)) :=
  have cleared : OnlyMoves h (movesCleared r c h) := rfl
  cleared.trans (onlyMoves_forEach _ _ (onlyMoves_failRoute r c) _)

theorem onlyMoves_rowTold (r c : Nat) (h : Hall) : OnlyMoves h (rowTold r c h) := by
  unfold rowTold
  dsimp only
  split
  · exact (onlyMoves_failed r c h).trans (onlyMoves_raise _ _)
  · exact onlyMoves_failed r c h

theorem becameStuck_eq (r c : Nat) (h : Hall) : becameStuck r c h =
    match h.claim c with
    | some t => if t = r then rowTold r c h else raise (.columnBlocked t c) (rowTold r c h)
    | none => rowTold r c h := by
  have told : rowTold r c h = if ((forEach allRows (failRoute r c) (movesCleared r c h)).carriage r).isSome = true then
      raise (.rowBlocked r) (forEach allRows (failRoute r c) (movesCleared r c h))
      else forEach allRows (failRoute r c) (movesCleared r c h) := by
    rw [(onlyMoves_failed r c h).carriage]
    rfl
  have claims := (onlyMoves_rowTold r c h).claim c
  rw [← claims, told]
  rfl

theorem onlyMoves_becameStuck (r c : Nat) (h : Hall) : OnlyMoves h (becameStuck r c h) := by
  have told := onlyMoves_rowTold r c h
  rw [becameStuck_eq]
  repeat' split
  · exact told
  · exact told.trans (onlyMoves_raise _ _)
  · exact told

/-! ## The move's timer (R73) -/

theorem moveExpired_eq (e : Env) (r c : Nat) (h : Hall) : moveExpired e r c h =
    if h.xp r c = .closing ∨ h.xp r c = .opening then
      becameStuck r c (setStuck e r c (send (.halt r c) (freeSlot r c h)))
    else h := by
  simp only [moveExpired, moving_iff]

/-- An expiry that is taken brings the timebase up to its timer's limit (log 3). -/
theorem expiry_taken {limit : Hall → Option Nat} {run : Env → Hall → Hall} {s : State} {t : Nat}
    (on : s.power = .running) (runs : limit s.hall = some t) : expiry limit run s =
      State.act { s with env := { s.env with timebase := max s.env.timebase t } }
        (run { s.env with timebase := max s.env.timebase t }) := by
  rw [expiry_some runs, event_running on]
  rfl

/-- Settles O38: the expiry is the halt order and a crosspoint STUCK, and a crosspoint STUCK only clears requests. -/
theorem moveTimeoutSticks : Obligations.MoveTimeoutSticks := by
  unfold Obligations.MoveTimeoutSticks
  refine ⟨fun s r c limit on runs => ?_, fun s r c idle => congrArg _ (expiry_none idle),
    fun e r c h row column => ⟨xp_setXp_same h r c .stuck row column, fun r' c' => setStuck_xp_ne e h, rfl⟩,
    fun r c h => ⟨becameStuck_eq r c h, (onlyMoves_becameStuck r c h).xp⟩,
    fun r c t h => ⟨fun none' => by simp only [failRoute, none'], fun q => failRoute_some⟩,
    fun t h => rfl, dropAsker_eq⟩
  simp only [← moveExpired_eq]
  exact congrArg _ (expiry_taken on runs)

end Sys2Proof.Machine
end


section
/-! Contact reports by the crosspoint's state, the end of a move, and contradictions (R66, R68 to R70, R74, R78): O37. -/

namespace Sys2Proof.Machine

/-! ## A contact report (R66, R68) -/

theorem withReading_same (e : Env) {r c : Nat} (reading : Reading) (row : r < 12) (column : c < 25) :
    (e.withReading r c reading).reading r c = reading := by
  unfold Env.reading Env.withReading
  dsimp only
  rw [read_update_same _ _ _ row]
  simp [write, column]

theorem withReading_ne (e : Env) {r c : Nat} (reading : Reading) {r' c' : Nat} (ne : ¬ (r' = r ∧ c' = c)) :
    (e.withReading r c reading).reading r' c' = e.reading r' c' := by
  unfold Env.reading Env.withReading
  dsimp only
  by_cases row : r' = r
  · subst row
    have other : c ≠ c' := fun is => ne ⟨rfl, is.symm⟩
    by_cases lt : r' < 12
    · rw [read_update_same _ _ _ lt]
      simp [write, other]
    · rw [read_out (n := 12) _ r' (Nat.le_of_not_lt lt), read_out (n := 12) _ r' (Nat.le_of_not_lt lt)]
  · rw [read_update_ne _ _ _ _ row]

theorem exec_contactReport {s : State} {r c : Nat} {reading : Reading} (on : s.power = .running) (row : r < 12)
    (column : c < 25) : exec (.contactReport r c reading) s = .next (contact r c reading s) :=
  congrArg _ (if_pos (by simp [row, column, on]))

theorem exec_contactReport_out {s : State} {r c : Nat} {reading : Reading} (out : 12 ≤ r ∨ 25 ≤ c) :
    exec (.contactReport r c reading) s = .next s := by
  refine congrArg _ (if_neg fun inside => ?_)
  simp only [Bool.and_eq_true, decide_eq_true_eq] at inside
  exact out.elim (Nat.not_le_of_lt inside.1.1) (Nat.not_le_of_lt inside.1.2)

/-- Outside the survey a contact report is taken by the crosspoint's state (R68). -/
theorem contact_settled {s : State} {r c : Nat} {reading : Reading} (on : s.power = .running)
    (no : s.hall.matrix.survey = none) : contact r c reading s =
      State.act { s with env := s.env.withReading r c reading } (takeContact (s.env.withReading r c reading) r c reading) := by
  unfold contact
  rw [no]
  exact event_running on

/-! ## The end of a move (R68, R70, R78) -/

theorem slot_freeSlot (r c : Nat) (h : Hall) {i : Nat} (lt : i < 4) : read (freeSlot r c h).matrix.slots i =
    (if (read h.matrix.slots i).any (fun x => x.move.row == r && x.move.col == c) = true then none
     else read h.matrix.slots i) := by
  simp only [read, freeSlot, mapMatrix_matrix, Vector.getElem?_map, getElem?_pos h.matrix.slots i lt, Option.map_some,
    Option.getD_some]
  rfl

/-- A move ended: its crosspoint's new state, its slot free (R68). -/
def moveEnded (r c : Nat) (x : XpState) (h : Hall) : Hall := freeSlot r c (h.setXp r c x)

theorem moveEnded_xp_same {r c : Nat} (x : XpState) (h : Hall) (row : r < 12) (column : c < 25) :
    (moveEnded r c x h).xp r c = x := xp_setXp_same h r c x row column

theorem moveEnded_xp_ne {r c r' c' : Nat} (x : XpState) (h : Hall) (ne : ¬ (r' = r ∧ c' = c)) :
    (moveEnded r c x h).xp r' c' = h.xp r' c' := xp_setXp_ne h r c r' c' x (Decidable.not_and_iff_or_not.mp ne)

theorem moveEnded_slot {r c i : Nat} (x : XpState) (h : Hall) {y : Slot} (lt : i < 4)
    (held : read (moveEnded r c x h).matrix.slots i = some y) : ¬ (y.move.row = r ∧ y.move.col = c) := by
  rw [moveEnded, slot_freeSlot _ _ _ lt] at held
  split at held
  · cases held
  · next other =>
    rw [held] at other
    simpa using other

theorem onlyMoves_moveOpened (r c : Nat) (h : Hall) : OnlyMoves (moveEnded r c .opened h) (moveOpened r c h) :=
  onlyMoves_forEach _ _ (onlyMoves_routeSawOpen r c) _

/-- A move ended CLOSED, the opens held against it taken off (R68, R70). -/
def heldTaken (r c : Nat) (h : Hall) : Hall :=
  (moveEnded r c .closed h).mapMatrix fun m =>
    { m with heldOpens := m.heldOpens.filter fun x => !(x.row == r && x.col == c) }

/-- The route whose close has ended is done (R78, R80). -/
def closeTold (r c : Nat) (h : Hall) : Hall :=
  match h.route r with
  | some q =>
    if q.placed = true ∧ q.column = some c then
      if q.isLocal then (heldTaken r c h).setRoute r none else raise (.routeDone r c) ((heldTaken r c h).setRoute r none)
    else heldTaken r c h
  | none => heldTaken r c h

theorem moveClosed_eq (r c : Nat) (h : Hall) : moveClosed r c h =
    (h.matrix.heldOpens.filter fun x => x.row == r && x.col == c).foldl (fun h m => askMove m h) (closeTold r c h) := by
  have told : (match h.route r with
      | some q =>
        if (q.placed && q.column == some c) = true then tellRouteDone r c q.isLocal ((heldTaken r c h).setRoute r none)
        else heldTaken r c h
      | none => heldTaken r c h) = closeTold r c h := by
    simp only [closeTold, Bool.and_eq_true, beq_iff_eq]
    rfl
  rw [← told]
  rfl

theorem onlyMoves_moveClosed (r c : Nat) (h : Hall) : OnlyMoves (moveEnded r c .closed h) (moveClosed r c h) := by
  have told : OnlyMoves (moveEnded r c .closed h) (closeTold r c h) := by
    unfold closeTold
    repeat' split
    all_goals rfl
  rw [moveClosed_eq]
  exact told.trans (onlyMoves_foldl _ _ (fun h m => onlyMoves_askMove m h) _)

theorem routeStep_some {t : Nat} {h : Hall} {q : RouteRequest} (asked : h.route t = some q) : routeStep t h =
    (if q.opens ≠ [] ∨ q.placed = true then h
     else match q.column with
       | none => h.setRoute t none
       | some a =>
         if h.xp t a = .closed then
           if q.isLocal then h.setRoute t none else raise (.routeDone t a) (h.setRoute t none)
         else askMove
           { row := t, col := a, close := true, safety := false
             askers := [if q.isLocal then .localRoute t else .route t] }
           (h.setRoute t (some { q with placed := true }))) := by
  simp only [routeStep, asked, Bool.or_eq_true, Bool.not_eq_true', List.isEmpty_eq_false_iff]
  rfl

theorem routeSawOpen_some {r c t : Nat} {h : Hall} {q : RouteRequest} (asked : h.route t = some q) : routeSawOpen r c t h =
    if ∃ x ∈ q.opens, x.row = r ∧ x.col = c then
      routeStep t (h.setRoute t (some { q with opens := q.opens.filter fun x => !(x.row == r && x.col == c) }))
    else h := by
  simp only [routeSawOpen, asked, List.any_eq_true, Bool.and_eq_true, beq_iff_eq]

/-! ## A contradiction (R69) -/

section Contradiction

variable (e : Env) (r c : Nat) (h : Hall)

theorem takeDown_frame (t : Nat) : takeDown e t h =
    { h with txs := (takeDown e t h).txs, orders := (takeDown e t h).orders, agenda := (takeDown e t h).agenda } := by
  unfold takeDown
  split
  · conv => lhs; rw [rfOff_frame]
    rfl
  · rfl

theorem takeDown_eq (t : Nat) : takeDown e t h =
    if (h.tx t).rfEnable = true ∨ e.rfPresent t = true then raise (.cut t) (rfOff e t h) else h := by
  simp only [takeDown, rowLive, Bool.or_eq_true]

theorem takeDown_dark {t : Nat} (lt : t < 12) : ((takeDown e t h).tx t).rfEnable = false := by
  rw [takeDown_eq]
  split
  · exact rfOff_rfEnable e t h lt
  · next dark => exact Bool.eq_false_iff.mpr fun on => dark (Or.inl on)

theorem takeDown_keeps_dark {t : Nat} (u : Nat) (lt : t < 12) (dark : (h.tx t).rfEnable = false) :
    ((takeDown e u h).tx t).rfEnable = false := by
  by_cases same : t = u
  · subst same
    exact takeDown_dark e h lt
  · rw [takeDown_eq]
    split
    · exact (congrArg Tx.rfEnable (rfOff_tx_ne e u t h same)).trans dark
    · exact dark

/-- The crosspoint STUCK, its column LOCK_PENDING where it was LOCKED (R69). -/
def stuckPending : Hall :=
  (setStuck e r c h).setAntenna c fun x => { x with lock := if x.lock = .locked then .pending else x.lock }

/-- RF taken down from the row and from the row of the column's route (R69). -/
def lineDown : Hall :=
  match colRoute (stuckPending e r c h) c with
  | some u => takeDown e u (takeDown e r (stuckPending e r c h))
  | none => takeDown e r (stuckPending e r c h)

theorem contradiction_eq : contradiction e r c h = becameStuck r c (lineDown e r c h) := by
  have routes : colRoute (takeDown e r (stuckPending e r c h)) c = colRoute (stuckPending e r c h) c :=
    colRoute_of_xp (fun r' c' => by rw [takeDown_frame]; rfl) c
  unfold lineDown
  rw [← routes]
  rfl

theorem lineDown_frame : lineDown e r c h =
    { stuckPending e r c h with txs := (lineDown e r c h).txs, orders := (lineDown e r c h).orders
                                agenda := (lineDown e r c h).agenda } := by
  unfold lineDown
  split
  · rw [takeDown_frame, takeDown_frame]
  · rw [takeDown_frame]

variable {e r c h}

theorem contradiction_xp (r' c' : Nat) : (contradiction e r c h).xp r' c' = (setStuck e r c h).xp r' c' := by
  rw [contradiction_eq, (onlyMoves_becameStuck r c _).xp, lineDown_frame]
  rfl

theorem contradiction_lock (column : c < 25) : ((contradiction e r c h).antenna c).lock =
    (if (h.antenna c).lock = .locked then .pending else (h.antenna c).lock) := by
  rw [contradiction_eq, (onlyMoves_becameStuck r c _).antenna, lineDown_frame]
  exact congrArg Antenna.lock (antenna_setAntenna_same (setStuck e r c h) c _ column)

theorem contradiction_row_dark (row : r < 12) : ((contradiction e r c h).tx r).rfEnable = false := by
  have down : ((takeDown e r (stuckPending e r c h)).tx r).rfEnable = false := takeDown_dark e _ row
  rw [contradiction_eq, (onlyMoves_becameStuck r c _).tx]
  unfold lineDown
  split
  · exact takeDown_keeps_dark e _ _ row down
  · exact down

theorem contradiction_route_dark {t : Nat} (route : colRoute (setStuck e r c h) c = some t) :
    ((contradiction e r c h).tx t).rfEnable = false := by
  have pending : colRoute (stuckPending e r c h) c = some t := route
  obtain ⟨row, -, -⟩ := (colRoute_iff _ _ _).mp route
  rw [contradiction_eq, (onlyMoves_becameStuck r c _).tx, lineDown, pending]
  exact takeDown_dark e _ row

end Contradiction

/-- Settles O37: a report that ends a move or contradicts the crosspoint's state changes that state first, and then only
moves, routes and, on a contradiction, the transmitters of its two lines. -/
theorem contactReportsAndContradictions : Obligations.ContactReportsAndContradictions := by
  unfold Obligations.ContactReportsAndContradictions
  refine ⟨⟨fun s r c reading on no row column => ?_, fun e r c reading row column =>
      ⟨withReading_same e reading row column, fun r' c' => withReading_ne e reading⟩, fun s r c reading =>
      exec_contactReport_out⟩,
    ⟨fun r c h => ⟨rfl, moveClosed_eq r c h, fun i => slot_freeSlot r c h, rfl⟩, fun r c h row column =>
      ⟨?_, ?_, fun r' c' ne => ⟨?_, ?_⟩, fun i x lt held => ?_⟩, fun t h => ⟨fun none' => ⟨?_, fun r c => ?_⟩,
      fun q asked => ⟨routeStep_some asked, fun r c => routeSawOpen_some asked⟩⟩⟩,
    fun e r c t h => ⟨contradiction_eq e r c h, takeDown_eq e h t⟩, fun e r c h row column =>
      ⟨?_, fun r' c' ne => ?_, contradiction_row_dark row, contradiction_lock column, fun t => contradiction_route_dark⟩⟩
  · rw [exec_contactReport on row column, contact_settled on no]
    rfl
  · rw [(onlyMoves_moveOpened r c h).xp, moveEnded_xp_same _ h row column]
  · rw [(onlyMoves_moveClosed r c h).xp, moveEnded_xp_same _ h row column]
  · rw [(onlyMoves_moveOpened r c h).xp, moveEnded_xp_ne _ h ne]
  · rw [(onlyMoves_moveClosed r c h).xp, moveEnded_xp_ne _ h ne]
  · rw [(onlyMoves_moveOpened r c h).slots, (onlyMoves_moveClosed r c h).slots] at held
    exact held.elim (moveEnded_slot _ h lt) (moveEnded_slot _ h lt)
  · simp only [routeStep, none']
  · simp only [routeSawOpen, none']
  · rw [contradiction_xp]
    exact xp_setXp_same h r c .stuck row column
  · rw [contradiction_xp, setStuck_xp_ne e h ne]

end Sys2Proof.Machine
end


section
/-! The drive queue, its slots, and the start of a move (R70 to R73): O39. -/

namespace Sys2Proof.Machine

/-! ## When a queued move starts (R71) -/

theorem rowLive_eq_false (e : Env) (h : Hall) (t : Nat) :
    rowLive e h t = false ↔ (h.tx t).rfEnable = false ∧ e.rfPresent t = false := by
  simp [rowLive]

theorem canStart_iff (e : Env) (h : Hall) (m : Move) : canStart e h m = true ↔
    (h.tx m.row).rfEnable = false ∧ e.rfPresent m.row = false ∧ (h.xp m.row m.col).moving = false ∧
    (m.close = true →
      (∀ c, c < 25 → h.xp m.row c = .opened ∨ h.xp m.row c = .opening) ∧
      (∀ t, t < 12 → h.xp t m.col = .opened ∨ h.xp t m.col = .opening) ∧
      (e.antConfig m.col).present = true ∧ (h.antenna m.col).lock = .free ∧ (h.antenna m.col).change = none ∧
      (h.claim m.col = some m.row ∨ ∃ x ∈ m.askers, x ≠ .route m.row)) := by
  have row : (allCols.all fun c => h.xp m.row c == .opened || h.xp m.row c == .opening) = true ↔
      ∀ c, c < 25 → h.xp m.row c = .opened ∨ h.xp m.row c = .opening := by
    simp [allCols]
  have column : (allRows.all fun t => h.xp t m.col == .opened || h.xp t m.col == .opening) = true ↔
      ∀ t, t < 12 → h.xp t m.col = .opened ∨ h.xp t m.col = .opening := by
    simp [allRows]
  have claimed : (h.claim m.col == some m.row || m.askers.any fun x => x != .route m.row) = true ↔
      h.claim m.col = some m.row ∨ ∃ x ∈ m.askers, x ≠ .route m.row := by
    simp
  unfold canStart
  rw [Bool.and_eq_true, Bool.and_eq_true, Bool.not_eq_true', Bool.not_eq_true', rowLive_eq_false, Bool.or_eq_true,
    Bool.not_eq_true', Bool.and_eq_true, Bool.and_eq_true, Bool.and_eq_true, row, column, columnReady_iff, claimed]
  simp only [and_assoc, ← Bool.not_eq_true, imp_iff_not_or]

/-! ## A request for a move (R70) -/

theorem askMove_eq (m : Move) (h : Hall) : askMove m h =
    let x := h.xp m.row m.col
    let same := fun q : Move => q.row == m.row && q.col == m.col && q.close == m.close
    if x = .stuck ∨ (m.close = true ∧ (x = .closed ∨ x = .closing)) ∨
        (m.close = false ∧ (x = .opened ∨ x = .opening)) then h
    else if (h.matrix.queue ++ h.matrix.overflow).any same = true then h.mapMatrix (mergeInto m)
    else if m.safety = true ∧ x = .closing then h.mapMatrix fun n => { n with heldOpens := n.heldOpens ++ [m] }
    else enqueue m h := by
  have same : (fun q : Move => q.isOf m.row m.col && q.close == m.close) =
      fun q : Move => q.row == m.row && q.col == m.col && q.close == m.close := rfl
  simp only [askMove, same, Bool.and_eq_true, Bool.or_eq_true, decide_eq_true_eq, Bool.not_eq_true']
  by_cases stuck : h.xp m.row m.col = .stuck
  · simp only [stuck, if_true, true_or]
  · by_cases close : m.close = true
    · simp only [stuck, close, if_false, false_or, true_and, reduceCtorEq, false_and, or_false]
    · rw [Bool.not_eq_true] at close
      simp only [stuck, close, if_false, false_or, true_and, Bool.false_eq_true, false_and]

theorem mergeInto_eq (m : Move) (n : Matrix) : mergeInto m n =
    let same := fun q : Move => q.row == m.row && q.col == m.col && q.close == m.close
    let merged := fun q : Move => { q with safety := q.safety || m.safety, askers := q.askers ++ m.askers }
    match n.queue.find? same with
    | some q =>
      if m.safety = true ∧ q.safety = false then
        { n with queue := placeInQueue (n.queue.filter fun q => !same q) (merged q) }
      else { n with queue := n.queue.map fun q => if same q then merged q else q }
    | none => { n with overflow := n.overflow.map fun q => if same q then merged q else q } := by
  dsimp only
  cases found : n.queue.find? fun q : Move => q.row == m.row && q.col == m.col && q.close == m.close with
  | none =>
    have found' : (n.queue.find? fun q => q.isOf m.row m.col && q.close == m.close) = none := found
    simp only [mergeInto, found']
    rfl
  | some q =>
    have found' : (n.queue.find? fun q => q.isOf m.row m.col && q.close == m.close) = some q := found
    have raised : (m.safety && !q.safety) = true ↔ m.safety = true ∧ q.safety = false := by simp
    simp only [mergeInto, found']
    exact if_congr raised rfl rfl

/-! ## The start of a move (R72, R73) -/

section Start

variable {e : Env} {i : Nat} {m : Move} {h : Hall}

theorem startMove_xp (row : m.row < 12) (column : m.col < 25) :
    (startMove e i m h).xp m.row m.col = (if m.close then .closing else .opening) := xp_setXp_same _ _ _ _ row column

theorem startMove_slot (lt : i < 4) : read (startMove e i m h).matrix.slots i =
    some { move := m, limit := e.timebase + (e.config.hall.travel + 4) * 1000 } := read_write_same _ i _ lt

theorem startMove_txs : (startMove e i m h).txs = h.txs := rfl

theorem giveSlots_succ (e : Env) (n : Nat) (h : Hall) : giveSlots e (n + 1) h =
    match (List.range 4).find? (fun i => (read h.matrix.slots i).isNone), h.matrix.queue.find? (canStart e h) with
    | some i, some m => giveSlots e n (drainOverflow (startMove e i m h))
    | _, _ => h := rfl

/-- A drive order is sent only into a row that carries no RF (R71). -/
theorem giveSlots_drive {n r c : Nat} {close : Bool} (sent : .drive r c close ∈ (giveSlots e n h).orders)
    (new : .drive r c close ∉ h.orders) : (h.tx r).rfEnable = false ∧ e.rfPresent r = false := by
  induction n generalizing h with
  | zero => exact absurd sent new
  | succ n ih =>
    unfold giveSlots at sent
    split at sent
    · next i m _ found =>
      by_cases started : .drive r c close ∈ (drainOverflow (startMove e i m h)).orders
      · rcases List.mem_append.mp (show _ ∈ h.orders ++ [.drive m.row m.col m.close] from started) with old | is
        · exact absurd old new
        · obtain ⟨rfl, -, -⟩ := Order.drive.inj (List.mem_singleton.mp is)
          obtain ⟨enable, present, -⟩ := (canStart_iff e h m).mp (List.find?_some found)
          exact ⟨enable, present⟩
      · exact ih (h := drainOverflow (startMove e i m h)) sent started
    · exact absurd sent new

end Start

/-- Settles O39: a move starts on R71's conditions, and what a request makes of the queue is read off its cases. -/
theorem noMoveUnderRf : Obligations.NoMoveUnderRf := by
  unfold Obligations.NoMoveUnderRf
  exact ⟨canStart_iff,
    ⟨askMove_eq, mergeInto_eq, fun _ _ => rfl, fun m h => ⟨rfl, rfl⟩, fun q l m => ⟨rfl, rfl⟩⟩,
    fun e n h r c close => giveSlots_drive, fun e n h => ⟨rfl, giveSlots_succ e n h⟩,
    fun e i m h lt row column => ⟨startMove_xp row column, startMove_slot lt, rfl, rfl⟩⟩

end Sys2Proof.Machine
end


section
/-! The settings of the antennas (R84 to R87): O40. -/

namespace Sys2Proof.Machine

/-! ## Sending a setting (R84) -/

theorem not_keying_iff (o : Option Carriage) :
    o.any (·.phase == .keying) = false ↔ ∀ c, o = some c → c.phase ≠ .keying := by
  cases o <;> simp

theorem columnSilent_iff (e : Env) (h : Hall) (a : Nat) : columnSilent e h a = true ↔
    ∀ t, colRoute h a = some t →
      (h.tx t).rfEnable = false ∧ e.rfPresent t = false ∧ ∀ c, h.carriage t = some c → c.phase ≠ .keying := by
  unfold columnSilent
  cases colRoute h a with
  | none => simp
  | some t => simp [rowLive_eq_false, not_keying_iff, and_assoc]

/-- A setting that is sent (R84, R85). -/
def settingSent (e : Env) (a : Nat) (x : Setting) (h : Hall) : Hall :=
  send (.setAntenna a x) (h.setAntenna a fun y =>
    { y with setting := none, wanted := none
             change := some { target := x, limit := e.timebase + ((e.antConfig a).settingTime + 10) * 1000
                              sentBy := h.claim a } })

section Send

variable {e : Env} {a : Nat} {h : Hall}

theorem sendSetting_sent {x : Setting} (wanted : (h.antenna a).wanted = some x) (settled : (h.antenna a).change = none)
    (real : a ≠ 24) (silent : columnSilent e h a = true) : sendSetting e a h = settingSent e a x h := by
  have real : ¬ a = Config.testLoad := real
  have sends : (decide (a = Config.testLoad) || (h.antenna a).change.isSome || !columnSilent e h a) = false := by
    simp [real, settled, silent]
  unfold sendSetting
  rw [wanted]
  simp only [sends, Bool.false_eq_true, if_false]
  rfl

theorem sendSetting_left (no : (h.antenna a).wanted = none ∨ (h.antenna a).change ≠ none ∨ a = 24 ∨
    columnSilent e h a = false) : sendSetting e a h = h := by
  unfold sendSetting
  split
  · rfl
  · next x wanted =>
    have stays : (decide (a = Config.testLoad) || (h.antenna a).change.isSome || !columnSilent e h a) = true := by
      rcases no with none' | changing | load | loud
      · rw [none'] at wanted
        exact absurd wanted nofun
      · simp [Option.isSome_iff_ne_none.mpr changing]
      · simp [show a = Config.testLoad from load]
      · simp [loud]
    rw [if_pos stays]

theorem columnSilent_eq_false (loud : ∃ t, colRoute h a = some t ∧
    ((h.tx t).rfEnable = true ∨ e.rfPresent t = true ∨ ∃ c, h.carriage t = some c ∧ c.phase = .keying)) :
    columnSilent e h a = false := by
  obtain ⟨t, route, carries⟩ := loud
  refine Bool.eq_false_iff.mpr fun silent => ?_
  obtain ⟨off, dark, keys⟩ := (columnSilent_iff e h a).mp silent t route
  rcases carries with on | lit | ⟨c, is, keying⟩
  · exact absurd (on.symm.trans off) nofun
  · exact absurd (lit.symm.trans dark) nofun
  · exact keys c is keying

end Send

/-! ## How a change ends (R85, R86) -/

theorem settingReported_eq (e : Env) (a : Nat) (x : Setting) (h : Hall) : settingReported e a x h =
    if 24 ≤ a then h
    else
      let known := h.setAntenna a fun y => { y with setting := some x, change := none }
      match (h.antenna a).change with
      | some ch => if x = ch.target then tellSetting a ch true known else tellSetting a ch false (settingFault e a known)
      | none =>
        if (h.antenna a).setting = none ∨ (h.antenna a).setting = some x then known else settingFault e a known := by
  unfold settingReported
  by_cases load : 24 ≤ a
  · rw [if_pos load]
    exact (if_pos load).symm
  · rw [if_neg load]
    refine Eq.trans ?_ (if_neg load).symm
    cases change : (h.antenna a).change with
    | some ch => simp only [change]
    | none => simp only [change, Bool.or_eq_true, Option.isNone_iff_eq_none, decide_eq_true_eq]

/-- What a running part makes of an event depends only on what it makes of the hall as it stands, its orders taken out. -/
theorem act_congr {s : State} {f g : Hall → Hall} (same : f { s.hall with orders := [] } = g { s.hall with orders := [] }) :
    s.act f = s.act g := by
  unfold State.act
  rw [same]

theorem settingTimeout_taken {s : State} {a : Nat} {ch : SettingChange} (on : s.power = .running)
    (changing : (s.hall.antenna a).change = some ch) :
    expiry (fun h => (h.antenna a).change.map (·.limit)) (fun e h => settingExpired e a h) s =
      State.act { s with env := { s.env with timebase := max s.env.timebase ch.limit } } fun h =>
        tellSetting a ch false (settingFault { s.env with timebase := max s.env.timebase ch.limit } a
          (h.setAntenna a fun y => { y with setting := none, change := none })) := by
  have runs : (s.hall.antenna a).change.map (·.limit) = some ch.limit := by rw [changing]; rfl
  rw [expiry_taken (limit := fun h => (h.antenna a).change.map (·.limit)) on runs]
  have changing' : (({ s.hall with orders := [] } : Hall).antenna a).change = some ch := changing
  exact act_congr (by simp only [settingExpired, changing'])

theorem tellSetting_eq (a : Nat) (ch : SettingChange) (reached : Bool) (h : Hall) : tellSetting a ch reached h =
    match ch.sentBy with
    | some t =>
      if h.claim a = some t then
        if reached = true then raise (.settingDone t a ch.target) h else raise (.settingFailed t a) h
      else h
    | none => h := rfl

/-! ## A setting fault (R85, R87) -/

theorem markSuspect_antenna (e : Env) {a : Nat} (h : Hall) (column : a < 25) :
    (markSuspect e a h).antenna a = { h.antenna a with suspect := true } := by
  unfold markSuspect
  split
  · next marked => rw [← marked]
  · exact antenna_setAntenna_same h a _ column

theorem settingFault_antenna (e : Env) {a : Nat} (h : Hall) (column : a < 25) :
    (settingFault e a h).antenna a = { h.antenna a with suspect := true } :=
  markSuspect_antenna e (post e .settingFault a h) column

theorem settingFault_planning (e : Env) (a : Nat) (h : Hall) :
    read (settingFault e a h).attention.planning EventKind.settingFault.bit = some a := by
  have posted : read (post e .settingFault a h).attention.planning EventKind.settingFault.bit = some a :=
    planning_post_same _ _ _ _
  unfold settingFault markSuspect
  split
  · exact posted
  · exact (planning_post_ne _ _ _ (by decide)).trans posted

theorem settingFault_planning_suspect {e : Env} {a : Nat} {h : Hall} (unmarked : (h.antenna a).suspect = false) :
    read (settingFault e a h).attention.planning EventKind.suspect.bit = some a := by
  have unmarked : ¬ ((post e .settingFault a h).antenna a).suspect = true := Bool.eq_false_iff.mp unmarked
  rw [settingFault, markSuspect, if_neg unmarked]
  exact planning_post_same _ _ _ _

/-- Settles O40: sending is decided by its tests, and a report, an expiry and a fault are read off their cases. -/
theorem settingsSentAndReported : Obligations.SettingsSentAndReported := by
  unfold Obligations.SettingsSentAndReported
  refine ⟨fun e a h column => ⟨fun x wanted settled real silent => ?_, fun no => sendSetting_left ?_⟩,
    fun s a x on => ?_, fun s a ch on changing => congrArg _ (settingTimeout_taken on changing),
    fun s a idle => congrArg _ (expiry_none (by rw [idle]; rfl)), tellSetting_eq, fun e a h column =>
      ⟨by rw [settingFault_antenna e h column], by rw [settingFault_antenna e h column], settingFault_planning e a h,
        settingFault_planning_suspect⟩⟩
  · have sent := sendSetting_sent wanted settled real ((columnSilent_iff e h a).mpr silent)
    rw [sent]
    exact ⟨rfl, antenna_setAntenna_same h a _ column, rfl⟩
  · exact no.imp_right (Or.imp_right (Or.imp_right columnSilent_eq_false))
  · exact congrArg _ ((event_running on).trans (act_congr (settingReported_eq s.env a x _)))

end Sys2Proof.Machine
end


section
/-! The console's commands on the matrix (R91, R157 to R163): O43. -/

namespace Sys2Proof.Machine

/-! ## What is made of a command -/

/-- The outcome of a frame that is taken, read off what its block made of the command. -/
def made (s : State) (link : Link) (code : Nat) (tag : Byte) (x : Effect) : Host.Outcome State Fault Refusal :=
  match x.change with
  | none => .next (s.reply link code tag x.answer)
  | some f => .next ((s.act f).reply link code tag x.answer)

theorem frame_made {s : State} {link : Link} {code : Nat} {tag : Byte} {α : Type} {a : α}
    {run : α → Env → Hall → Effect} (yes : s.takes link = true) :
    .next (frame link code tag (.fields a) (changing run) s) = made s link code tag (run a s.env s.hall) := by
  rw [frame_fields yes]
  cases change : (run a s.env s.hall).change <;> simp only [changing, made, change]

theorem made_unchanged (s : State) (link : Link) (code : Nat) (tag : Byte) (r : ResultCode) :
    made s link code tag (.unchanged r) = answers s link code tag r := rfl

theorem made_done (s : State) (link : Link) (code : Nat) (tag : Byte) (f : Hall → Hall) :
    made s link code tag (.done f) = takes s link code tag f := rfl

theorem made_ite (s : State) (link : Link) (code : Nat) (tag : Byte) (p : Prop) [Decidable p] (x y : Effect) :
    made s link code tag (if p then x else y) = if p then made s link code tag x else made s link code tag y :=
  apply_ite _ _ _ _

theorem matrixRequest_settled {α : Type} {i : Instr} {run : α → Env → Hall → Effect} {a : α} {e : Env} {h : Hall}
    (no : h.matrix.survey = none) : matrixRequest i run a e h = run a e h := by
  simp [matrixRequest, no]

/-- A request of the matrix outside the survey is made of at once. -/
theorem request_made {s : State} {link : Link} {code : Nat} {tag : Byte} {α : Type} {a : α} {i : Instr}
    {run : α → Env → Hall → Effect} (yes : s.takes link = true) (no : s.hall.matrix.survey = none) :
    .next (frame link code tag (.fields a) (changing (matrixRequest i run)) s) =
      made s link code tag (run a s.env s.hall) := by
  rw [frame_made yes, matrixRequest_settled no]

/-! ## The commands (R91, R157, R161 to R163) -/

section Commands

variable {s : State} {tag : Byte} (yes : s.takes .console = true) (no : s.hall.matrix.survey = none)

include yes no

theorem lockAntenna_made (a : Nat) : exec (.lockAntenna tag (.fields a)) s =
    if 24 < a then answers s .console 23 tag .format
    else if (s.env.antConfig a).present = false then answers s .console 23 tag .range
    else if (s.hall.antenna a).lock ≠ .free then answers s .console 23 tag .done
    else takes s .console 23 tag (lockColumn s.env a) := by
  refine (request_made yes no).trans ?_
  simp only [lockRun, made_ite, made_unchanged, made_done, Bool.not_eq_true']
  rfl

theorem freeAntenna_made (a : Nat) : exec (.freeAntenna tag (.fields a)) s =
    if 24 < a then answers s .console 24 tag .format
    else if (s.env.antConfig a).present = false then answers s .console 24 tag .range
    else match (s.hall.antenna a).lock with
      | .free => answers s .console 24 tag .done
      | .pending => answers s .console 24 tag .busy
      | .locked => takes s .console 24 tag fun h =>
          scan s.env (usersOf h a) (h.setAntenna a fun x => { x with lock := .free }) := by
  refine (request_made yes no).trans ?_
  simp only [freeRun, made_ite, made_unchanged, Bool.not_eq_true']
  cases (s.hall.antenna a).lock <;> rfl

theorem clearSuspect_made (a : Nat) : exec (.clearSuspect tag (.fields a)) s =
    if 24 < a then answers s .console 25 tag .format
    else if (s.hall.antenna a).suspect = false then answers s .console 25 tag .done
    else takes s .console 25 tag fun h =>
      scan s.env (usersOf h a) (h.setAntenna a fun x => { x with suspect := false }) := by
  refine (request_made yes no).trans ?_
  simp only [clearSuspectRun, made_ite, made_unchanged, made_done, Bool.not_eq_true']
  rfl

omit yes no in
theorem noneClosed_eq_false (h : Hall) (x : RowCol) :
    ((closedCols h x.row).isEmpty && (closedRows h x.col).isEmpty) = false ↔
      (∃ c ∈ List.range 25, h.xp x.row c = .closed) ∨ ∃ t ∈ List.range 12, h.xp t x.col = .closed := by
  have columns : (closedCols h x.row).isEmpty = false ↔ ∃ c ∈ List.range 25, h.xp x.row c = .closed := by
    simp [closedCols, allCols]
  have rows : (closedRows h x.col).isEmpty = false ↔ ∃ t ∈ List.range 12, h.xp t x.col = .closed := by
    simp [closedRows, allRows]
  rw [Bool.and_eq_false_iff, columns, rows]

theorem clearStuck_made (x : RowCol) : exec (.clearStuck tag (.fields x)) s =
    if 11 < x.row ∨ 24 < x.col then answers s .console 26 tag .format
    else if s.hall.xp x.row x.col ≠ .stuck then answers s .console 26 tag .done
    else match s.env.reading x.row x.col with
      | .mid => answers s .console 26 tag .blocked
      | .opened => takes s .console 26 tag fun h => h.setXp x.row x.col .opened
      | .closed =>
        if (∃ c ∈ List.range 25, s.hall.xp x.row c = .closed) ∨ (∃ t ∈ List.range 12, s.hall.xp t x.col = .closed) then
          answers s .console 26 tag .blocked
        else takes s .console 26 tag fun h =>
          if (h.antenna x.col).lock = .free then h.setXp x.row x.col .closed
          else askSafetyOpen .clearStuck x.row x.col
            ((h.setXp x.row x.col .closed).setAntenna x.col fun y => { y with lock := .pending }) := by
  refine (request_made yes no).trans ?_
  unfold clearStuckRun
  rw [made_ite, made_ite]
  refine if_congr (by simp [Config.rows, Config.columns]; omega) rfl (if_congr Iff.rfl rfl ?_)
  cases s.env.reading x.row x.col with
  | mid => rfl
  | opened => rfl
  | closed =>
    dsimp only
    by_cases others : (∃ c ∈ List.range 25, s.hall.xp x.row c = .closed) ∨
        ∃ t ∈ List.range 12, s.hall.xp t x.col = .closed
    · rw [if_pos others, (noneClosed_eq_false s.hall x).mpr others]
      rfl
    · rw [if_neg others, Bool.eq_true_of_not_eq_false (mt (noneClosed_eq_false s.hall x).mp others)]
      rfl

end Commands

/-! ## A column that empties (R83, R157 to R160) -/

theorem columnEmpty_iff (h : Hall) (a : Nat) :
    columnEmpty h a = true ↔ (∀ t, t < 12 → h.xp t a = .opened) ∧ h.claim a = none := by
  simp [columnEmpty, allRows]

theorem mem_usersOf (h : Hall) (a t : Nat) : t ∈ usersOf h a ↔ t < 12 ∧
    ∃ b ∈ h.table.records, b.fields.transmitter = t ∧ (b.fields.antenna = a ∨ b.fields.alternate = some a) := by
  simp [usersOf, allRows]

theorem completeLock_eq (e : Env) (a : Nat) (h : Hall) : completeLock e a h =
    if (h.antenna a).lock = .pending ∧ columnEmpty h a = true then
      post e .locked a (h.setAntenna a fun x => { x with lock := .locked })
    else h := by
  simp only [completeLock, Bool.and_eq_true, decide_eq_true_eq]

theorem completeLock_locked (e : Env) {a : Nat} {h : Hall} (column : a < 25) (pending : (h.antenna a).lock = .pending)
    (empty : columnEmpty h a = true) : ((completeLock e a h).antenna a).lock = .locked := by
  rw [completeLock_eq, if_pos ⟨pending, empty⟩]
  exact congrArg Antenna.lock (antenna_setAntenna_same h a _ column)

theorem failLocked_some (a t : Nat) (h : Hall) (q : RouteRequest) (asked : h.route t = some q) : failLocked a t h =
    if q.column = some a ∧ ¬ (q.placed = true ∧ h.xp t a = .closing) then
      if q.isLocal then (if q.placed then withdrawRoute t h else h)
      else raise (.routeFailed t a .columnLocked) (h.setRoute t none)
    else h := by
  have fails : (q.column = some a && !(q.placed && h.xp t a == .closing)) = true ↔
      q.column = some a ∧ ¬ (q.placed = true ∧ h.xp t a = .closing) := by
    simp [imp_iff_not_or]
  simp only [failLocked, asked]
  by_cases into : q.column = some a ∧ ¬ (q.placed = true ∧ h.xp t a = .closing)
  · rw [if_pos into, if_pos (fails.mpr into)]
    by_cases console : q.isLocal = true
    · simp only [console, if_true]
    · simp only [console, tellRouteFailed, into.1]
      rfl
  · rw [if_neg into, if_neg (mt fails.mp into)]

section LeaveFree

/-- The queued closes into a column leave the queue (R83). -/
def closesCleared (a : Nat) (h : Hall) : Hall :=
  h.mapMatrix fun m => { m with queue := m.queue.filter fun x => !(x.close && x.col == a)
                                overflow := m.overflow.filter fun x => !(x.close && x.col == a) }

theorem onlyMoves_closesCleared (a : Nat) (h : Hall) : OnlyMoves h (closesCleared a h) := rfl

theorem closesCleared_queued {a : Nat} {h : Hall} {m : Move}
    (queued : m ∈ (closesCleared a h).matrix.queue ++ (closesCleared a h).matrix.overflow) :
    ¬ (m.close = true ∧ m.col = a) := by
  have stays : (!(m.close && m.col == a)) = true := by
    rcases List.mem_append.mp queued with inQueue | waits
    · exact (List.mem_filter.mp inQueue).2
    · exact (List.mem_filter.mp waits).2
  simpa [imp_iff_not_or] using stays

variable (lock : LockState) {a : Nat} (h : Hall)

theorem leaveFree_eq : leaveFree lock a h =
    closesCleared a (forEach allRows (failLocked a) (h.setAntenna a fun x => { x with lock := lock })) := rfl

theorem onlyMoves_leaveFree : OnlyMoves (h.setAntenna a fun x => { x with lock := lock }) (leaveFree lock a h) := by
  rw [leaveFree_eq]
  exact (onlyMoves_forEach allRows (failLocked a) (onlyMoves_failLocked a) _).trans (onlyMoves_closesCleared a _)

theorem leaveFree_lock (column : a < 25) : ((leaveFree lock a h).antenna a).lock = lock := by
  rw [(onlyMoves_leaveFree lock h).antenna, antenna_setAntenna_same h a _ column]

/-- No close into a column that leaves FREE stays queued (R79, R83). -/
theorem leaveFree_queued (m : Move)
    (queued : m ∈ (leaveFree lock a h).matrix.queue ++ (leaveFree lock a h).matrix.overflow) :
    ¬ (m.close = true ∧ m.col = a) := by
  rw [leaveFree_eq] at queued
  exact closesCleared_queued queued

end LeaveFree

/-! ## A lock (R157 to R160) -/

section Lock

variable {e : Env} {a : Nat} {h : Hall}

theorem lockColumn_empty (empty : columnEmpty h a = true) :
    lockColumn e a h = post e .locked a (leaveFree .locked a h) := if_pos empty

theorem lockColumn_emptied (column : a < 25) (empty : columnEmpty h a = true) :
    ((lockColumn e a h).antenna a).lock = .locked ∧ (lockColumn e a h).attention = h.attention.post e.mask .locked a ∧
    (∀ m, m ∈ (lockColumn e a h).matrix.queue ++ (lockColumn e a h).matrix.overflow → ¬ (m.close = true ∧ m.col = a)) ∧
    (lockColumn e a h).carriages = h.carriages := by
  have told : (leaveFree .locked a h).attention = h.attention := (onlyMoves_leaveFree .locked h).attention
  rw [lockColumn_empty empty, post_attention, post_matrix, post_carriages, Hall.antenna, post_matrix]
  exact ⟨leaveFree_lock .locked h column, congrArg (·.post e.mask .locked a) told, leaveFree_queued .locked h,
    (onlyMoves_leaveFree .locked h).carriages⟩

theorem lockRest_lock (column : a < 25) : ((lockRest a h).antenna a).lock = .pending := by
  have pending : ((openColumn .lock a (makePending a h)).antenna a).lock = .pending := by
    rw [(onlyMoves_openColumn .lock a _).antenna]
    exact leaveFree_lock .pending h column
  unfold lockRest
  dsimp only
  split
  · exact (congrArg Antenna.lock (antenna_setAntenna_same _ a _ column)).trans pending
  · exact pending

theorem lockRest_claim (column : a < 25) : (lockRest a h).claim a = none := by
  have claims : (openColumn .lock a (makePending a h)).claim a = h.claim a :=
    ((onlyMoves_openColumn .lock a _).claim a).trans ((onlyMoves_leaveFree .pending h).claim a)
  unfold lockRest
  dsimp only
  split
  · exact releaseClaim_claim_same column
  · next unclaimed => exact unclaimed

theorem lockRest_eq (a : Nat) (h : Hall) : lockRest a h =
    match h.claim a with
    | some t => releaseClaim t a (openColumn .lock a (makePending a h))
    | none => openColumn .lock a (makePending a h) := by
  have claims : (openColumn .lock a (makePending a h)).claim a = h.claim a :=
    ((onlyMoves_openColumn .lock a _).claim a).trans ((onlyMoves_leaveFree .pending h).claim a)
  rw [← claims]
  rfl

theorem substituteOnAir_refused {t : Nat} (refused : (substituteOnAir e t false h).1 = false) :
    (substituteOnAir e t false h).2 = h := by
  have either : (substituteOnAir e t false h).2 = h ∨ (substituteOnAir e t false h).1 = true := by
    unfold substituteOnAir
    split
    · exact .inl rfl
    · dsimp only
      split
      · exact .inl rfl
      · split
        · exact .inl rfl
        · exact .inr rfl
  exact either.resolve_right (by rw [refused]; exact Bool.false_ne_true)

theorem enforceOne_carriage (e : Env) (t u : Nat) (h : Hall) : (enforceOne e t h).carriage u = h.carriage u := by
  rw [enforceOne_frame]
  rfl

/-- A lock on the column of a carriage in KEYING or ON_AIR (R159; log 15). -/
theorem lockLive_eq {t : Nat} {c : Carriage} (is : h.carriage t = some c) : lockLive e t a h =
    let answer := substituteOnAir e t false h
    let pending := enforceOne e t (makePending a answer.2)
    let ending := endingForSent e t (if c.aired then .cut else .missed) pending
    refresh e t (openColumn .lock a
      (if answer.1 = true then pending else if ending.claim a = some t then releaseClaim t a ending else ending)) := by
  unfold lockLive
  dsimp only
  cases granted : (substituteOnAir e t false h).1 with
  | true => rfl
  | false =>
    have carried : (enforceOne e t (makePending a (substituteOnAir e t false h).2)).carriage t = some c := by
      rw [enforceOne_carriage, substituteOnAir_refused granted]
      exact ((onlyMoves_leaveFree .pending h).carriage t).trans is
    rw [carried]
    rfl

theorem lockColumn_claimed (holds : columnEmpty h a = false) : lockColumn e a h =
    match (h.claim a).bind fun t => (h.carriage t).map fun c => (t, c) with
    | none => lockRest a h
    | some (t, c) =>
      if c.phase = .keying ∨ c.phase = .onAir then
        let answer := substituteOnAir e t false h
        let pending := enforceOne e t (makePending a answer.2)
        let ending := endingForSent e t (if c.aired then .cut else .missed) pending
        refresh e t (openColumn .lock a
          (if answer.1 = true then pending else if ending.claim a = some t then releaseClaim t a ending else ending))
      else if c.phase = .ending then refresh e t (lockRest a h)
      else refresh e t (resolveAgain e t (releaseClaim t a (openColumn .lock a (makePending a h)))) := by
  unfold lockColumn
  rw [if_neg (by rw [holds]; exact Bool.false_ne_true)]
  cases h.claim a with
  | none => rfl
  | some t =>
    cases is : h.carriage t with
    | none => simp only [Option.bind_some, is, Option.map_none]
    | some c =>
      simp only [Option.bind_some, is, Option.map_some, lockLive_eq is]
      cases phase : c.phase <;> rfl

end Lock

/-- Settles O43: each command by its refusals, and a lock by what the column holds. -/
theorem locksEmptyTheirColumn : Obligations.LocksEmptyTheirColumn := by
  unfold Obligations.LocksEmptyTheirColumn
  refine ⟨fun s tag yes => ⟨fun a no => lockAntenna_made yes no a, fun a no => freeAntenna_made yes no a,
      fun a no => clearSuspect_made yes no a, fun x no => clearStuck_made yes no x⟩,
    fun e a h => lockColumn_emptied, columnEmpty_iff, fun e a h => lockColumn_claimed,
    fun a h => ⟨lockRest_eq a h, fun column => ⟨lockRest_lock column, lockRest_claim column⟩⟩,
    fun a h => leaveFree_eq .pending h,
    fun a t h => ⟨fun none' => by simp only [failLocked, none'], failLocked_some a t h⟩,
    fun a h column => ⟨leaveFree_lock .pending h column, leaveFree_queued .pending h⟩, mem_usersOf,
    fun e a h column => ⟨completeLock_eq e a h, completeLock_locked e column⟩⟩
end Sys2Proof.Machine
end


section
/-! LOCAL control, tunes and RF ON (R80, R98, R103 to R106, R165): O44. -/

namespace Sys2Proof.Machine

/-! ## The commands (R80, R98, R104, R165) -/

/-- The outcome of a command whose block names a refusal, or takes it. -/
def madeOr (s : State) (link : Link) (code : Nat) (tag : Byte) (refusal : Option ResultCode) (f : Hall → Hall) :
    Host.Outcome State Fault Refusal :=
  match refusal with
  | some r => answers s link code tag r
  | none => takes s link code tag f

theorem madeOr_ite (s : State) (link : Link) (code : Nat) (tag : Byte) (p : Prop) [Decidable p] (r : ResultCode)
    (x : Option ResultCode) (f : Hall → Hall) :
    madeOr s link code tag (if p then some r else x) f =
      if p then answers s link code tag r else madeOr s link code tag x f := by
  split <;> rfl

theorem rowLive_iff (e : Env) (h : Hall) (t : Nat) :
    rowLive e h t = true ↔ (h.tx t).rfEnable = true ∨ e.rfPresent t = true := by
  simp [rowLive]

section Commands

variable {s : State} {tag : Byte} (yes : s.takes .console = true)

include yes

theorem localRoute_made (no : s.hall.matrix.survey = none) (r : LocalRouteArgs) :
    exec (.localRoute tag (.fields r)) s =
      if 11 < r.transmitter ∨ r.column.any (24 < ·) = true then answers s .console 29 tag .format
      else if (s.hall.tx r.transmitter).state ≠ .console then answers s .console 29 tag .mode
      else madeOr s .console 29 tag (localRouteRefusal s.env s.hall r.transmitter r.column)
        (askLocalRoute r.transmitter r.column) := by
  refine (request_made yes no).trans ?_
  unfold localRouteRun
  rw [made_ite, made_ite]
  refine if_congr (by rw [Bool.or_eq_true, decide_eq_true_eq]; exact Iff.rfl) rfl (if_congr Iff.rfl rfl ?_)
  cases localRouteRefusal s.env s.hall r.transmitter r.column <;> rfl

theorem localTune_made (r : LocalArgs) : exec (.localTune tag (.fields r)) s =
    if 11 < r.transmitter ∨ isFrequency r.value = false then answers s .console 30 tag .format
    else if (s.hall.tx r.transmitter).state ≠ .console then answers s .console 30 tag .mode
    else if r.value < (s.env.txConfig r.transmitter).minFreq ∨ (s.env.txConfig r.transmitter).maxFreq < r.value then
      answers s .console 30 tag .range
    else if (s.hall.tx r.transmitter).rfEnable = true ∨ s.env.rfPresent r.transmitter = true then
      answers s .console 30 tag .interlock
    else takes s .console 30 tag (takeTune s.env r.transmitter r.value .console) := by
  have refused : made s .console 30 tag (localTuneRun r s.env s.hall) =
      if 11 < r.transmitter ∨ isFrequency r.value = false then answers s .console 30 tag .format
      else if (s.hall.tx r.transmitter).state ≠ .console then answers s .console 30 tag .mode
      else madeOr s .console 30 tag (tuneRefusal s.env s.hall r.transmitter r.value)
        (takeTune s.env r.transmitter r.value .console) := by
    unfold localTuneRun
    rw [made_ite, made_ite]
    refine if_congr ?_ rfl (if_congr Iff.rfl rfl ?_)
    · rw [Bool.or_eq_true, decide_eq_true_eq, Bool.not_eq_true']
      exact Iff.rfl
    · cases tuneRefusal s.env s.hall r.transmitter r.value <;> rfl
  refine (frame_made yes).trans (refused.trans (if_congr Iff.rfl rfl (if_congr Iff.rfl rfl ?_)))
  unfold tuneRefusal
  rw [madeOr_ite, madeOr_ite]
  exact if_congr (by simp) rfl (if_congr (rowLive_iff _ _ _) rfl rfl)

theorem localRfOn_made (no : s.hall.matrix.survey = none) (r : LocalArgs) : exec (.localRfOn tag (.fields r)) s =
    if 11 < r.transmitter ∨ r.value < 10 ∨ 600 < r.value then answers s .console 31 tag .format
    else if (s.env.txConfig r.transmitter).rated < r.value then answers s .console 31 tag .power
    else if (s.hall.tx r.transmitter).state ≠ .console ∨ s.env.mode = .configuring then answers s .console 31 tag .mode
    else if mayRadiate s.env s.hall r.transmitter r.value = false then answers s .console 31 tag .interlock
    else takes s .console 31 tag (rfOn s.env r.transmitter r.value .console) := by
  refine (request_made yes no).trans ?_
  unfold localRfOnRun
  rw [made_ite, made_ite, made_ite, made_ite]
  refine if_congr ?_ rfl (if_congr Iff.rfl rfl (if_congr ?_ rfl (if_congr ?_ rfl rfl)))
  · simp only [isPower, Config.rows, Bool.or_eq_true, decide_eq_true_eq, Bool.not_eq_true', Bool.and_eq_false_iff,
      decide_eq_false_iff_not]
    omega
  · simp only [Bool.or_eq_true, decide_eq_true_eq]
  · rw [Bool.not_eq_true']

theorem localRfOff_made (k : Nat) : exec (.localRfOff tag (.fields k)) s =
    if 11 < k then answers s .console 32 tag .format
    else if (s.hall.tx k).state ≠ .console then answers s .console 32 tag .mode
    else takes s .console 32 tag (rfOff s.env k) := by
  refine (frame_made yes).trans ?_
  unfold localRfOffRun
  rw [made_ite, made_ite]
  rfl

end Commands

/-- What a LOCAL ROUTE meets, once it names a LOCAL transmitter (R80; log 52). -/
theorem localRouteRefusal_made (s : State) (code : Nat) (tag : Byte) (f : Hall → Hall) (t : Nat) (column : Option Nat) :
    madeOr s .console code tag (localRouteRefusal s.env s.hall t column) f =
      if (s.hall.tx t).rfEnable = true ∨ s.env.rfPresent t = true then answers s .console code tag .interlock
      else if ∃ a, column = some a ∧ (s.env.antConfig a).present = false then answers s .console code tag .range
      else if ∃ a, column = some a ∧ (s.hall.antenna a).lock ≠ .free then answers s .console code tag .locked
      else if rowBlocked s.hall t = true ∨ column.any (colBlocked s.hall) = true then answers s .console code tag .blocked
      else if (∃ a, column = some a ∧ ((s.hall.claim a).isSome = true ∨ (colRoute s.hall a).any (· != t) = true)) ∨
          (∃ m ∈ s.hall.matrix.queue ++ s.hall.matrix.overflow, m.row = t) ∨
          (∃ c ∈ movingCols s.hall t, True) then answers s .console code tag .busy
      else takes s .console code tag f := by
  unfold localRouteRefusal
  iterate 5 rw [madeOr_ite]
  refine if_congr (rowLive_iff _ _ _) rfl (if_congr ?absent rfl (if_congr ?locked rfl
    (if_congr ?blocked rfl (if_congr ?busy rfl rfl))))
  case absent => simp only [Option.any_eq_true, Bool.not_eq_true']
  case locked => simp only [Option.any_eq_true, bne_iff_ne]
  case blocked => rw [Bool.or_eq_true]
  case busy =>
    have moving : (!(movingCols s.hall t).isEmpty) = true ↔ ∃ c ∈ movingCols s.hall t, True := by
      cases movingCols s.hall t <;> simp
    rw [Bool.or_eq_true, Bool.or_eq_true, moving, Option.any_eq_true, List.any_eq_true, or_assoc]
    simp only [Bool.or_eq_true, beq_iff_eq]

/-! ## Tunes (R104, R106) -/

section Tunes

variable {e : Env} {t f : Nat} {h : Hall}

/-- The tune that becomes outstanding for a console's request (R104 step 5, R106; log 46). -/
def Tx.tuning (e : Env) (t f : Nat) (x : Tx) : Tx :=
  let limit := (tuneTime (e.txConfig t) x.tuned f + e.config.hall.tuneGrace) * 1000
  { x with tuned := none
           tune := some { frequency := f, origin := x.tuned, limit := limit
                          ends := if (e.indications t).ready then some (e.timebase + limit) else none
                          requester := some .console } }

theorem takeTune_idle (idle : (h.tx t).tune = none) (off : (h.tx t).tuned ≠ some f) :
    takeTune e t f .console h = startTune e t f .console h := by
  simp [takeTune, idle, off]

theorem sendTx_tx (e : Env) (t u : Nat) (o : Order) (h : Hall) : (sendTx e t o h).tx u = h.tx u := by
  unfold sendTx
  split <;> rfl

theorem startTune_tx (lt : t < 12) : (startTune e t f .console h).tx t = (h.tx t).tuning e t f := by
  cases ready : (e.indications t).ready <;>
    simp [startTune, Tx.tuning, Env.after, ready, sendTx_tx, tx_setTx_same h t _ lt]

theorem startTune_orders : (startTune e t f .console h).orders = h.orders ++
    (if (e.indications t).ready = true ∧ (e.txConfig t).present = true then [.tune t f] else []) := by
  unfold startTune sendTx
  dsimp only
  cases (e.indications t).ready <;> cases (e.txConfig t).present <;> simp

theorem takeTune_there (idle : (h.tx t).tune = none) (tuned : (h.tx t).tuned = some f) :
    takeTune e t f .console h = h := by
  simp [takeTune, idle, tuned, tellTuned]

theorem takeTune_busy (busy : (h.tx t).tune.isSome = true) : takeTune e t f .console h =
    h.setTx t fun x => { x with pendingTune := some { frequency := f, requester := .console } } := if_pos busy

end Tunes

/-! ## RF ON (R97, R98, R99, R106) -/

theorem rfIsUp_iff (e : Env) (h : Hall) (t : Nat) : rfIsUp e h t = true ↔
    (h.tx t).rfEnable = true ∧ (h.tx t).rfUp = none ∧ e.rfPresent t = true := by
  simp [rfIsUp, and_assoc]

theorem rfOn_eq (e : Env) (t power : Nat) (who : Requester) (h : Hall) : rfOn e t power who h =
    if who ≠ .console ∧ (h.tx t).state = .held then raise (.held t) h
    else if (h.tx t).rfEnable = true ∧ (h.tx t).rfUp = none ∧ e.rfPresent t = true then
      let set := if (h.tx t).power = some power then h else setPower e t power h
      if who = .console then set else raise (.rfUp t) set
    else if (h.tx t).rfUp ≠ none then h
    else match (h.tx t).rfOn with
      | some w => h.setTx t fun x => { x with rfOn := some { w with requesters := w.requesters ++ [who] } }
      | none =>
        if (h.tx t).rfDown ≠ none then
          h.setTx t fun x => { x with rfOn := some { power := power, forDown := true, requesters := [who] } }
        else rfOnChecked e t power [who] h := by
  unfold rfOn
  refine if_congr (by rw [Bool.and_eq_true, decide_eq_true_eq, decide_eq_true_eq]) rfl
    (if_congr (rfIsUp_iff e h t) rfl (if_congr Option.isSome_iff_ne_none rfl ?_))
  cases (h.tx t).rfOn with
  | some w => rfl
  | none => exact if_congr Option.isSome_iff_ne_none rfl rfl

theorem onlyMoves_tellInterlock (t : Nat) (l : List Requester) (h : Hall) : OnlyMoves h (tellInterlock t l h) :=
  onlyMoves_foldl l _ (fun h r => by split <;> rfl) h

theorem tellInterlock_agenda (t : Nat) (l : List Requester) (h : Hall) :
    (tellInterlock t l h).agenda = h.agenda ++ (l.filter (· ≠ .console)).map (.interlock t) := by
  induction l generalizing h with
  | nil => simp [tellInterlock]
  | cons r l ih =>
    refine (ih (if r = .console then h else raise (.interlock t r) h)).trans ?_
    by_cases console : r = .console
    · simp [console]
    · simp [console, raise]

section Checked

variable {e : Env} {t power : Nat} {h : Hall}

theorem rfOnChecked_refused (l : List Requester) (no : mayRadiate e h t power = false) :
    rfOnChecked e t power l h = tellInterlock t l (h.setTx t fun x => { x with rfOn := none }) := by
  simp only [rfOnChecked, no, Bool.not_false, if_true]

theorem rfOnChecked_passed (l : List Requester) (yes : mayRadiate e h t power = true) : rfOnChecked e t power l h =
    if (e.indications t).ready = true then keyUp e t power (h.setTx t fun x => { x with power := some power })
    else (h.setTx t fun x => { x with power := some power }).setTx t fun x =>
      { x with rfOn := some { power := power, forDown := false, requesters := l } } := by
  simp only [rfOnChecked, yes, Bool.not_true, Bool.false_eq_true, if_false]

variable (e power h) in
theorem keyUp_tx (lt : t < 12) : (keyUp e t power h).tx t =
    { h.tx t with rfEnable := true, rfOn := none, rfUp := some (e.timebase + 10000) } := by
  have keyed := tx_setTx_same h t (fun x => { x with rfEnable := true, rfOn := none, rfUp := some (e.timebase + 10000) }) lt
  exact (sendTx_tx ..).trans keyed

theorem keyUp_orders (present : (e.txConfig t).present = true) :
    (keyUp e t power h).orders = h.orders ++ [.rfOn t power] := by
  simp only [keyUp, sendTx, present, if_true]
  rfl

theorem rfOnChecked_facts (l : List Requester) (lt : t < 12) :
    (mayRadiate e h t power = false → (rfOnChecked e t power l h).tx t = { h.tx t with rfOn := none } ∧
      (rfOnChecked e t power l h).orders = h.orders ∧
      (rfOnChecked e t power l h).agenda = h.agenda ++ (l.filter (· ≠ .console)).map (.interlock t)) ∧
    (mayRadiate e h t power = true → (e.indications t).ready = true →
      (rfOnChecked e t power l h).tx t =
        { h.tx t with power := some power, rfEnable := true, rfOn := none, rfUp := some (e.timebase + 10000) } ∧
      (rfOnChecked e t power l h).orders = h.orders ++ [.rfOn t power]) ∧
    (mayRadiate e h t power = true → (e.indications t).ready = false →
      (rfOnChecked e t power l h).tx t =
        { h.tx t with power := some power, rfOn := some { power := power, forDown := false, requesters := l } } ∧
      (rfOnChecked e t power l h).orders = h.orders) := by
  have set := tx_setTx_same h t (fun x => { x with power := some power }) lt
  refine ⟨fun no => ?refused, fun yes ready => ?keyed, fun yes unready => ?waits⟩
  case refused =>
    have told := onlyMoves_tellInterlock t l (h.setTx t fun x => { x with rfOn := none })
    rw [rfOnChecked_refused l no]
    exact ⟨(told.tx t).trans (tx_setTx_same h t _ lt), told.orders, tellInterlock_agenda t l _⟩
  case keyed =>
    obtain ⟨present, -⟩ := (mayRadiate_iff e h t power).mp yes
    rw [rfOnChecked_passed l yes, if_pos ready, keyUp_tx e power _ lt, set, keyUp_orders present]
    exact ⟨rfl, rfl⟩
  case waits =>
    rw [rfOnChecked_passed l yes, if_neg (by rw [unready]; exact Bool.false_ne_true), tx_setTx_same _ t _ lt, set]
    exact ⟨rfl, rfl⟩

/-! ## SET POWER (R103) -/

theorem setPower_eq (e : Env) (t power : Nat) (h : Hall) : setPower e t power h =
    if power ≤ (e.txConfig t).rated ∧ ∀ a, rowRoute h t = some a → power ≤ (e.antConfig a).rating then
      let kept := h.setTx t fun x => { x with power := some power, rfOn := x.rfOn.map fun w => { w with power := power } }
      if (kept.tx t).rfEnable = true then sendTx e t (.setPower t power) kept else kept
    else h := by
  rw [← ite_not]
  refine if_congr ?_ rfl rfl
  rw [Bool.or_eq_true, decide_eq_true_eq, decide_eq_true_eq, Classical.not_and_iff_not_or_not, Nat.not_le]
  cases rowRoute h t <;> simp

theorem setPower_kept (lt : t < 12) (allowed : power ≤ (e.txConfig t).rated ∧
    ∀ a, rowRoute h t = some a → power ≤ (e.antConfig a).rating) :
    (setPower e t power h).tx t =
      { h.tx t with power := some power, rfOn := (h.tx t).rfOn.map fun w => { w with power := power } } ∧
    (setPower e t power h).orders = h.orders ++
      (if (h.tx t).rfEnable = true ∧ (e.txConfig t).present = true then [.setPower t power] else []) := by
  have kept := tx_setTx_same h t
    (fun x => { x with power := some power, rfOn := x.rfOn.map fun w => { w with power := power } }) lt
  rw [setPower_eq, if_pos allowed]
  dsimp only
  rw [kept]
  by_cases live : (h.tx t).rfEnable = true
  · rw [if_pos live]
    unfold sendTx
    by_cases present : (e.txConfig t).present = true
    · rw [if_pos present, if_pos ⟨live, present⟩]
      exact ⟨kept, rfl⟩
    · rw [if_neg present, if_neg fun both => present both.2]
      exact ⟨kept, (List.append_nil _).symm⟩
  · rw [if_neg live, if_neg fun both => live both.1]
    exact ⟨kept, (List.append_nil _).symm⟩

end Checked

/-- Settles O44: each LOCAL command by its refusals, and tunes, RF ON and SET POWER by their cases. -/
theorem localCommandsAndTunes : Obligations.LocalCommandsAndTunes := by
  unfold Obligations.LocalCommandsAndTunes
  refine ⟨fun s tag yes => ⟨fun r no => ?_, fun r => localTune_made yes r, fun r no => localRfOn_made yes no r,
      fun k => localRfOff_made yes k⟩,
    fun e t f h lt => ⟨fun idle off => ?_, takeTune_there, fun busy => ?_⟩, rfOn_eq,
    fun e t power l h => rfOnChecked_facts l, fun e t power h lt => ⟨fun no => ?_, fun allowed => ?_⟩⟩
  · rw [localRoute_made yes no, localRouteRefusal_made]
    rfl
  · rw [takeTune_idle idle off]
    exact ⟨startTune_tx lt, startTune_orders⟩
  · rw [takeTune_busy busy]
    exact ⟨tx_setTx_same h t _ lt, rfl⟩
  · rw [setPower_eq]
    exact if_neg no
  · obtain ⟨kept, sent⟩ := setPower_kept lt allowed
    exact ⟨kept, sent, setPower_frame e t power h⟩

end Sys2Proof.Machine
end


section
/-! What leaves the matrix as it stands, and what leaves the survey as it stands: all but a survey's own report and end. -/

namespace Sys2Proof.Machine

/-! ## What leaves the matrix -/

theorem OnlyCues.matrix {h h' : Hall} (only : OnlyCues h h') : h'.matrix = h.matrix := by rw [show h' = _ from only]

theorem OnlyTable.matrix {h h' : Hall} (only : OnlyTable h h') : h'.matrix = h.matrix := by rw [show h' = _ from only]

@[simp] theorem scan_matrix (e : Env) (ts : List Nat) (h : Hall) : (scan e ts h).matrix = h.matrix :=
  (onlyCues_scan e ts h).matrix

@[simp] theorem refresh_matrix (e : Env) (t : Nat) (h : Hall) : (refresh e t h).matrix = h.matrix :=
  (onlyCues_refresh e t h).matrix

@[simp] theorem rescan_matrix (e : Env) (h : Hall) : (rescan e h).matrix = h.matrix := (onlyCues_rescan e h).matrix

@[simp] theorem readmit_matrix (e : Env) (n d : Nat) (h : Hall) : (readmit e n d h).matrix = h.matrix :=
  (onlyCues_readmit e n d h).matrix

@[simp] theorem moveStop_matrix (e : Env) (t n d due : Nat) (h : Hall) : (moveStop e t n d due h).matrix = h.matrix :=
  (onlyCues_moveStop e t n d due h).matrix

@[simp] theorem nearlyFullTest_matrix (e : Env) (h : Hall) : (nearlyFullTest e h).matrix = h.matrix :=
  (onlyTable_nearlyFullTest e h).matrix

@[simp] theorem replaceBooking_matrix (e : Env) (b : Offered) (h : Hall) : (replaceBooking e b h).matrix = h.matrix :=
  (onlyTable_replaceBooking e b h).matrix

@[simp] theorem seasonTest_matrix (e : Env) (season : Nat) (h : Hall) : (seasonTest e season h).matrix = h.matrix := by
  unfold seasonTest
  split <;> rfl

@[simp] theorem removeBookings_matrix (e : Env) (gone : List Booking) (h : Hall) :
    (removeBookings e gone h).matrix = h.matrix :=
  foldl_keeps (·.matrix = h.matrix) gone _ (fun b _ _ same => (seasonTest_matrix e b.fields.season _).trans same) _
    (scan_matrix e _ _)

@[simp] theorem removeBooking_matrix (e : Env) (n : Nat) (h : Hall) : (removeBooking e n h).matrix = h.matrix := by
  unfold removeBooking
  split <;> simp

@[simp] theorem retire_matrix (e : Env) (tested : List Booking) (h : Hall) : (retire e tested h).matrix = h.matrix := by
  unfold retire
  dsimp only
  split <;> simp

@[simp] theorem applyParked_matrix (e : Env) (t : Nat) (h : Hall) : (applyParked e t h).matrix = h.matrix := by
  unfold applyParked
  dsimp only
  split
  · rfl
  · next p _ =>
    cases h.booking p.number with
    | none => simp
    | some b => simp

@[simp] theorem serviceOver_matrix (e : Env) (t n : Nat) (h : Hall) : (serviceOver e t n h).matrix = h.matrix := by
  unfold serviceOver
  dsimp only
  split <;> simp

@[simp] theorem settleOutcome_matrix (e : Env) (n : Nat) (o : RunOutcome) (h : Hall) :
    (settleOutcome e n o h).matrix = h.matrix := by
  unfold settleOutcome
  dsimp only
  repeat' split
  all_goals rfl

@[simp] theorem rfOff_matrix (e : Env) (t : Nat) (h : Hall) : (rfOff e t h).matrix = h.matrix := by rw [rfOff_frame]

@[simp] theorem tellInterlock_matrix (t : Nat) (l : List Requester) (h : Hall) : (tellInterlock t l h).matrix = h.matrix :=
  foldl_keeps (·.matrix = h.matrix) l _ (fun r _ h' same => by split <;> exact same) h rfl

@[simp] theorem sendTx_matrix (e : Env) (t : Nat) (o : Order) (h : Hall) : (sendTx e t o h).matrix = h.matrix := by
  unfold sendTx
  split <;> rfl

@[simp] theorem rfOnChecked_matrix (e : Env) (t power : Nat) (l : List Requester) (h : Hall) :
    (rfOnChecked e t power l h).matrix = h.matrix := by
  unfold rfOnChecked keyUp
  dsimp only
  repeat' split
  all_goals simp

@[simp] theorem setPower_matrix (e : Env) (t power : Nat) (h : Hall) : (setPower e t power h).matrix = h.matrix := by
  rw [setPower_frame]

@[simp] theorem rfOn_matrix (e : Env) (t power : Nat) (who : Requester) (h : Hall) :
    (rfOn e t power who h).matrix = h.matrix := by
  unfold rfOn
  dsimp only
  repeat' split
  all_goals simp

@[simp] theorem takeTune_matrix (e : Env) (t f : Nat) (who : Requester) (h : Hall) :
    (takeTune e t f who h).matrix = h.matrix := by
  rw [takeTune_frame]

@[simp] theorem askTune_matrix (e : Env) (t f : Nat) (h : Hall) : (askTune e t f h).matrix = h.matrix := by
  unfold askTune
  repeat' split
  all_goals simp

/-! ## What leaves the survey -/

@[simp] theorem releaseClaim_survey (t a : Nat) (h : Hall) : (releaseClaim t a h).matrix.survey = h.matrix.survey := rfl

@[simp] theorem releaseAny_survey (t : Nat) (h : Hall) : (releaseAny t h).matrix.survey = h.matrix.survey := by
  unfold releaseAny
  split <;> simp

@[simp] theorem grantClaim_survey (e : Env) (t a : Nat) (h : Hall) : (grantClaim e t a h).matrix.survey = h.matrix.survey := by
  unfold grantClaim
  split <;> simp

@[simp] theorem askRoute_survey (t a : Nat) (h : Hall) : (askRoute t a h).matrix.survey = h.matrix.survey :=
  (onlyMoves_askRoute t a h).survey

@[simp] theorem askSetting_survey (e : Env) (t a : Nat) (s : Setting) (h : Hall) :
    (askSetting e t a s h).matrix.survey = h.matrix.survey := by
  unfold askSetting
  repeat' split
  all_goals simp

@[simp] theorem askSafetyOpen_survey (who : Asker) (r c : Nat) (h : Hall) :
    (askSafetyOpen who r c h).matrix.survey = h.matrix.survey := (onlyMoves_askSafetyOpen who r c h).survey

@[simp] theorem openColumn_survey (who : Asker) (a : Nat) (h : Hall) :
    (openColumn who a h).matrix.survey = h.matrix.survey := (onlyMoves_openColumn who a h).survey

@[simp] theorem leaveFree_survey (lock : LockState) (a : Nat) (h : Hall) :
    (leaveFree lock a h).matrix.survey = h.matrix.survey := (onlyMoves_leaveFree lock h).survey

@[simp] theorem makePending_survey (a : Nat) (h : Hall) : (makePending a h).matrix.survey = h.matrix.survey :=
  leaveFree_survey _ a h

@[simp] theorem completeLock_survey (e : Env) (a : Nat) (h : Hall) :
    (completeLock e a h).matrix.survey = h.matrix.survey := by
  unfold completeLock
  split <;> simp

@[simp] theorem enforceOne_survey (e : Env) (t : Nat) (h : Hall) : (enforceOne e t h).matrix.survey = h.matrix.survey := by
  rw [enforceOne_matrix]

/-! ### The carriage controller -/

@[simp] theorem enterRfDown_survey (e : Env) (t : Nat) (h : Hall) : (enterRfDown e t h).matrix.survey = h.matrix.survey := by
  simp [enterRfDown]

@[simp] theorem askRouteAndSetting_survey (e : Env) (t : Nat) (h : Hall) :
    (askRouteAndSetting e t h).matrix.survey = h.matrix.survey := by
  unfold askRouteAndSetting
  split <;> simp

@[simp] theorem enterWorking_survey (e : Env) (t : Nat) (h : Hall) : (enterWorking e t h).matrix.survey = h.matrix.survey := by
  unfold enterWorking
  dsimp only
  repeat' split
  all_goals simp

@[simp] theorem openCarriage_survey (e : Env) (t : Nat) (b : Offered) (w : Waiting) (a : Nat) (s : Setting) (h : Hall) :
    (openCarriage e t b w a s h).matrix.survey = h.matrix.survey := by
  unfold openCarriage carriageOpened
  dsimp only
  repeat' split
  all_goals simp

@[simp] theorem tryOpen_survey (e : Env) (t : Nat) (b : Offered) (w : Waiting) (h : Hall) :
    (tryOpen e t b w h).matrix.survey = h.matrix.survey := by
  unfold tryOpen
  repeat' split
  all_goals simp

@[simp] theorem reachEntry_survey (e : Env) (t : Nat) (w : Waiting) (h : Hall) :
    (reachEntry e t w h).matrix.survey = h.matrix.survey := by
  unfold reachEntry
  dsimp only
  repeat' split
  all_goals simp

@[simp] theorem reachEntries_survey (e : Env) (t : Nat) (l : List Waiting) (h : Hall) :
    (reachEntries e t l h).matrix.survey = h.matrix.survey := by
  induction l generalizing h with
  | nil => rfl
  | cons w rest ih =>
    unfold reachEntries
    dsimp only
    split <;> simp [ih]

@[simp] theorem reachWaiting_survey (e : Env) (t : Nat) (h : Hall) : (reachWaiting e t h).matrix.survey = h.matrix.survey := by
  unfold reachWaiting
  split <;> simp

@[simp] theorem detach_survey (e : Env) (t : Nat) (h : Hall) : (detach e t h).matrix.survey = h.matrix.survey := by
  rw [detach_frame]
  exact releaseAny_survey t h

@[simp] theorem endCarriage_survey (e : Env) (t : Nat) (h : Hall) : (endCarriage e t h).matrix.survey = h.matrix.survey := by
  unfold endCarriage
  split <;> simp

@[simp] theorem endWith_survey (e : Env) (t : Nat) (o : RunOutcome) (h : Hall) :
    (endWith e t o h).matrix.survey = h.matrix.survey := by
  simp [endWith]

@[simp] theorem endingForSent_survey (e : Env) (t : Nat) (o : RunOutcome) (h : Hall) :
    (endingForSent e t o h).matrix.survey = h.matrix.survey := by
  unfold endingForSent
  dsimp only
  repeat' split
  all_goals simp

@[simp] theorem moveToAlternate_survey (e : Env) (t a : Nat) (s : Setting) (c : Carriage) (h : Hall) :
    (moveToAlternate e t a s c h).matrix.survey = h.matrix.survey := by
  simp [moveToAlternate]

@[simp] theorem resolveAgain_survey (e : Env) (t : Nat) (h : Hall) : (resolveAgain e t h).matrix.survey = h.matrix.survey := by
  unfold resolveAgain
  dsimp only
  split
  · rfl
  · split
    · simp
    · split <;> simp

@[simp] theorem reprepare_survey (e : Env) (t : Nat) (retune : Bool) (h : Hall) :
    (reprepare e t retune h).matrix.survey = h.matrix.survey := by
  unfold reprepare
  dsimp only
  split <;> simp

@[simp] theorem substituteOnAir_survey (e : Env) (t : Nat) (forTrip : Bool) (h : Hall) :
    (substituteOnAir e t forTrip h).2.matrix.survey = h.matrix.survey := by
  unfold substituteOnAir
  dsimp only
  repeat' split
  all_goals simp

/-! ### The console's commands -/

@[simp] theorem lockRest_survey (a : Nat) (h : Hall) : (lockRest a h).matrix.survey = h.matrix.survey := by
  unfold lockRest
  dsimp only
  split <;> simp

@[simp] theorem lockLive_survey (e : Env) (t a : Nat) (h : Hall) : (lockLive e t a h).matrix.survey = h.matrix.survey := by
  unfold lockLive
  dsimp only
  repeat' split
  all_goals simp

@[simp] theorem lockColumn_survey (e : Env) (a : Nat) (h : Hall) : (lockColumn e a h).matrix.survey = h.matrix.survey := by
  unfold lockColumn lockEarly
  repeat' split
  all_goals simp

@[simp] theorem clearClosed_survey (r c : Nat) (h : Hall) : (clearClosed r c h).matrix.survey = h.matrix.survey := by
  unfold clearClosed
  dsimp only
  split <;> simp

@[simp] theorem askLocalRoute_survey (t : Nat) (column : Option Nat) (h : Hall) :
    (askLocalRoute t column h).matrix.survey = h.matrix.survey :=
  ((onlyMoves_withdrawRoute t h).trans (onlyMoves_beginRoute t column true (rowOpens h t column) _)).survey

@[simp] theorem adopt_survey (e : Env) (t : Nat) (a : Adoption) (h : Hall) : (adopt e t a h).matrix.survey = h.matrix.survey := by
  unfold adopt carriageOpened writeOutcome setLastRun
  dsimp only
  repeat' split
  all_goals simp

@[simp] theorem giveRemoteChange_survey (e : Env) (t : Nat) (h : Hall) :
    (giveRemoteChange e t h).matrix.survey = h.matrix.survey := by
  have withdrawn := (onlyMoves_withdrawRoute t (h.setTx t fun x => { x with mode := .remote })).survey
  unfold giveRemoteChange giveUp
  dsimp only
  repeat' split
  all_goals simp [withdrawn]

@[simp] theorem restartOne_survey (e : Env) (b : Booking) (h : Hall) : (restartOne e b h).matrix.survey = h.matrix.survey := by
  unfold restartOne writeOutcome
  dsimp only
  repeat' split
  all_goals simp

end Sys2Proof.Machine
end


section
/-! The survey, its end and the requests held until then (R83, R89, R90, R179, R180): O42. -/

namespace Sys2Proof.Machine

/-! ## The events that end the survey (R89) -/

/-- The hall in which the survey's limit or its last report leaves a running part. -/
theorem surveyOver_running {s : State} (on : s.power = .running) (e : Env) (sv : Survey) (change : Hall → Hall) :
    surveyOver e sv change s = State.deliver (State.act { s with env := e } fun h => (endSurvey e sv (change h)).1)
      (endSurvey e sv (change s.hall)).2 :=
  congrArg (State.deliver · (endSurvey e sv (change s.hall)).2) (event_running on)

theorem exec_surveyLimit {s : State} {sv : Survey} (on : s.power = .running) (surveying : s.hall.matrix.survey = some sv) :
    let e := { s.env with timebase := max s.env.timebase sv.limit }
    exec .surveyLimit s = .next (State.deliver
      (State.act { s with env := e } fun h => (endSurvey e sv h).1) (endSurvey e sv s.hall).2) := by
  have taken : exec .surveyLimit s = .next (surveyOver (s.env.reach sv.limit) sv id s) := by
    show execSurveyLimit s = _
    simp only [execSurveyLimit, surveying, on, if_true]
  rw [taken, surveyOver_running on]
  rfl

theorem exec_surveyLimit_none {s : State} (settled : s.hall.matrix.survey = none) : exec .surveyLimit s = .next s := by
  show execSurveyLimit s = _
  simp only [execSurveyLimit, settled]

section Report

variable {s : State} {r c : Nat} {reading : Reading} {sv : Survey} (on : s.power = .running)
  (surveying : s.hall.matrix.survey = some sv) (expected : ∃ x ∈ sv.unreported, x.row = r ∧ x.col = c)

include on surveying expected

/-- A report the survey waits for, by whether another is still missing. -/
theorem contact_survey : contact r c reading s =
    if (sv.unreported.filter fun x => !(x.row == r && x.col == c)).isEmpty = true then
      surveyOver (s.env.withReading r c reading) { sv with unreported := [] }
        (surveyReport (s.env.withReading r c reading) r c reading) s
    else State.act { s with env := s.env.withReading r c reading }
      (surveyReport (s.env.withReading r c reading) r c reading) := by
  have waited : (sv.unreported.any fun x => x.row == r && x.col == c) = true := by simpa using expected
  simp only [contact, surveying, waited, if_true, event_running on]

theorem contact_survey_early (more : ∃ x ∈ sv.unreported, ¬ (x.row = r ∧ x.col = c)) : contact r c reading s =
    State.act { s with env := s.env.withReading r c reading }
      (surveyReport (s.env.withReading r c reading) r c reading) := by
  rw [contact_survey on surveying expected, if_neg]
  simpa using more

theorem contact_survey_last (last : ∀ x ∈ sv.unreported, x.row = r ∧ x.col = c) : contact r c reading s =
    surveyOver (s.env.withReading r c reading) { sv with unreported := [] }
      (surveyReport (s.env.withReading r c reading) r c reading) s := by
  rw [contact_survey on surveying expected, if_pos]
  simpa using last

end Report

/-! ## A survey report (R89) -/

section SurveyReport

variable (e : Env) (r c : Nat) (reading : Reading) (h : Hall)

theorem surveyReport_xp (row : r < 12) (column : c < 25) : (surveyReport e r c reading h).xp r c =
    match reading with
    | .opened => .opened
    | .closed => .closed
    | .mid => .stuck := by
  cases reading <;> exact xp_setXp_same h r c _ row column

theorem surveyReport_xp_ne (r' c' : Nat) (ne : ¬ (r' = r ∧ c' = c)) :
    (surveyReport e r c reading h).xp r' c' = h.xp r' c' := by
  cases reading <;> exact xp_setXp_ne h r c r' c' _ (Decidable.not_and_iff_or_not.mp ne)

theorem surveyReport_attention : (surveyReport e r c reading h).attention =
    if reading = .mid then h.attention.post e.mask .stuck (r * 25 + c) else h.attention := by
  cases reading <;> rfl

theorem surveyReport_survey {sv : Survey} (surveying : h.matrix.survey = some sv) :
    (surveyReport e r c reading h).matrix.survey =
      some { sv with unreported := sv.unreported.filter fun x => !(x.row == r && x.col == c) } := by
  have left : (surveyReport e r c reading h).matrix.survey = h.matrix.survey.map fun sv =>
      { sv with unreported := sv.unreported.filter fun x => !(x.row == r && x.col == c) } := by
    cases reading <;> rfl
  rw [left, surveying]
  rfl

end SurveyReport

/-! ## The crosspoints without a report (R89) -/

theorem setStuck_stays (e : Env) {r c : Nat} {h : Hall} (row : r < 12) (column : c < 25) (stuck : h.xp r c = .stuck)
    (x : RowCol) : (setStuck e x.row x.col h).xp r c = .stuck := by
  by_cases same : r = x.row ∧ c = x.col
  · obtain ⟨rfl, rfl⟩ := same
    exact xp_setXp_same h x.row x.col .stuck row column
  · exact (setStuck_xp_ne e h same).trans stuck

theorem unreported_stuck (e : Env) (h : Hall) (l : List RowCol) (within : ∀ x ∈ l, x.row < 12 ∧ x.col < 25) :
    ∀ x ∈ l, (l.foldl (fun h x => setStuck e x.row x.col h) h).xp x.row x.col = .stuck := by
  induction l generalizing h with
  | nil => exact fun x mem => absurd mem List.not_mem_nil
  | cons y l ih =>
    intro x mem
    obtain ⟨row, column⟩ := within x mem
    rcases List.mem_cons.mp mem with rfl | later
    · exact foldl_keeps (fun h => h.xp x.row x.col = .stuck) l _
        (fun y _ h stuck => setStuck_stays e row column stuck y) _ (xp_setXp_same h x.row x.col .stuck row column)
    · exact ih _ (fun z mem => within z (List.mem_cons_of_mem y mem)) x later

/-! ## The reconstruction (R83, R90) -/

theorem one_lt_length_iff {α : Type} {a : α} {l : List α} (mem : a ∈ l) : 1 < l.length ↔ l ≠ [a] := by
  refine ⟨fun more is => absurd more (by simp [is]), fun other => ?_⟩
  by_contra few
  have one : l.length = 1 := Nat.le_antisymm (Nat.not_lt.mp few) (List.length_pos_of_mem mem)
  obtain ⟨b, rfl⟩ := List.length_eq_one_iff.mp one
  exact other (by rw [List.mem_singleton.mp mem])

theorem closedCols_many {h : Hall} {t a : Nat} (column : a < 25) (closed : h.xp t a = .closed) :
    1 < (closedCols h t).length ↔ ∃ c, c < 25 ∧ c ≠ a ∧ h.xp t c = .closed := by
  have mem : a ∈ closedCols h t := List.mem_filter.mpr ⟨mem_allCols.mpr column, by simp [closed]⟩
  rw [one_lt_length_iff mem]
  simp only [closedCols, allCols, ne_eq, filter_range_eq_singleton, beq_iff_eq]
  grind

theorem closedRows_many {h : Hall} {t a : Nat} (row : t < 12) (closed : h.xp t a = .closed) :
    1 < (closedRows h a).length ↔ ∃ r, r < 12 ∧ r ≠ t ∧ h.xp r a = .closed := by
  have mem : t ∈ closedRows h a := List.mem_filter.mpr ⟨mem_allRows.mpr row, by simp [closed]⟩
  rw [one_lt_length_iff mem, ne_eq, closedRows_eq_singleton]
  grind

theorem mem_duplicates (h : Hall) (x : RowCol) : x ∈ duplicates h ↔
    x.row < 12 ∧ x.col < 25 ∧ h.xp x.row x.col = .closed ∧
      ((∃ c, c < 25 ∧ c ≠ x.col ∧ h.xp x.row c = .closed) ∨ ∃ r, r < 12 ∧ r ≠ x.row ∧ h.xp r x.col = .closed) := by
  unfold duplicates
  rw [List.mem_filter, mem_allCrosspoints, and_assoc, Bool.and_eq_true, Bool.or_eq_true, decide_eq_true_eq,
    decide_eq_true_eq, beq_iff_eq]
  refine and_congr_right fun row => and_congr_right fun column => and_congr_right fun closed => ?_
  rw [closedCols_many column closed, closedRows_many row closed]

/-- The crosspoints are listed by ascending number. -/
theorem allCrosspoints_ascend : allCrosspoints.Pairwise fun x y => x.row * 25 + x.col < y.row * 25 + y.col := by
  unfold allCrosspoints
  rw [List.pairwise_flatMap]
  refine ⟨fun r _ => ?_, List.pairwise_lt_range.imp fun {r r'} below x mem y mem' => ?_⟩
  · rw [List.pairwise_map]
    exact List.pairwise_lt_range.imp fun below => Nat.add_lt_add_left below _
  · obtain ⟨c, column, rfl⟩ := List.mem_map.mp mem
    obtain ⟨c', -, rfl⟩ := List.mem_map.mp mem'
    have column : c < 25 := List.mem_range.mp column
    dsimp only
    omega

theorem retakeLock_eq (e : Env) (a : Nat) (h : Hall) : retakeLock e a h =
    if (h.antenna a).lock = .free then h
    else if (∀ r ∈ List.range 12, h.xp r a ≠ .closed) ∧ colBlocked h a = false then completeLock e a h
    else openColumn .startup a (h.setAntenna a fun x => { x with lock := .pending }) := by
  refine if_congr Iff.rfl rfl (if_congr ?_ rfl rfl)
  rw [Bool.and_eq_true, Bool.not_eq_true']
  simp [closedRows, allRows]

theorem retakeLock_survey (e : Env) (a : Nat) (h : Hall) : (retakeLock e a h).matrix.survey = h.matrix.survey := by
  rw [retakeLock_eq]
  split
  · rfl
  · split
    · exact completeLock_survey e a h
    · exact openColumn_survey .startup a _

theorem reconstruct_survey (e : Env) (h : Hall) : (reconstruct e h).matrix.survey = h.matrix.survey := by
  have opened := foldl_keeps (·.matrix.survey = h.matrix.survey) (duplicates h)
    (fun h x => askSafetyOpen .startup x.row x.col h) (fun x _ _ same => (askSafetyOpen_survey ..).trans same) h rfl
  have taken (h : Hall) : (forEach allCols (retakeLock e) h).matrix.survey = h.matrix.survey :=
    forEach_keeps (fun h' => h'.matrix.survey = h.matrix.survey) allCols (retakeLock e)
      (fun a _ h' same => (retakeLock_survey e a h').trans same) h rfl
  unfold reconstruct
  rw [taken, opened]

/-! ## The requests held (R89, R179) -/

/-- What a block makes of a command leaves the survey as it stands. -/
def Effect.KeepsSurvey (x : Effect) : Prop := ∀ f, x.change = some f → ∀ h, (f h).matrix.survey = h.matrix.survey

@[simp] theorem keepsSurvey_none (x : Option Answer) : ({ answer := x, change := none } : Effect).KeepsSurvey :=
  fun _ none' => nomatch none'

@[simp] theorem keepsSurvey_unchanged (r : ResultCode) : (Effect.unchanged r).KeepsSurvey := keepsSurvey_none _

@[simp] theorem keepsSurvey_done (f : Hall → Hall) :
    (Effect.done f).KeepsSurvey ↔ ∀ h, (f h).matrix.survey = h.matrix.survey :=
  ⟨fun keeps => keeps f rfl, fun keeps _ is => Option.some.inj is ▸ keeps⟩

theorem takeHeld_keepsSurvey (i : Instr) (e : Env) (h : Hall) : (takeHeld i e h).KeepsSurvey := by
  unfold takeHeld lockRun freeRun clearSuspectRun clearStuckRun giveRemoteRun localRouteRun localRfOnRun
  repeat' split
  all_goals simp

theorem takeAllHeld_cons (e : Env) (i : Instr) (l : List Instr) (h : Hall) (a : Option Answer) :
    takeAllHeld e (i :: l) h a = takeAllHeld e l ((takeHeld i e h).change.elim h fun f => f h)
      ((takeHeld i e h).answer.or a) := by
  rw [takeAllHeld]
  cases (takeHeld i e h).change <;> rfl

theorem takeAllHeld_survey (e : Env) (l : List Instr) (h : Hall) (a : Option Answer) :
    (takeAllHeld e l h a).1.matrix.survey = h.matrix.survey := by
  induction l generalizing h a with
  | nil => rfl
  | cons i l ih =>
    have taken : ((takeHeld i e h).change.elim h fun f => f h).matrix.survey = h.matrix.survey := by
      cases change : (takeHeld i e h).change with
      | none => rfl
      | some f => exact takeHeld_keepsSurvey i e h f change h
    rw [takeAllHeld_cons, ih, taken]

/-- A request of the matrix that comes during the survey is held back without an answer (R89). -/
theorem request_held {s : State} {sv : Survey} {tag : Byte} {code : Nat} {i : Instr} {α : Type} {a : α}
    {run : α → Env → Hall → Effect} (yes : s.takes .console = true) (surveying : s.hall.matrix.survey = some sv) :
    frame .console code tag (.fields a) (changing (matrixRequest i run)) s =
      (s.act (holdRequest i)).reply .console code tag none :=
  changing_taken yes (by simp [matrixRequest, surveying])

/-! ## The end of the survey (R89, R90, R179, R180) -/

theorem endSurvey_eq (e : Env) (sv : Survey) (h : Hall) :
    let stuck := sv.unreported.foldl (fun h x => setStuck e x.row x.col h) h
    let held := takeAllHeld e sv.held (reconstruct e (stuck.mapMatrix fun m => { m with survey := none })) none
    let scanned := if e.mode = .configuring then held.1 else rescan e held.1
    endSurvey e sv h = (if sv.warm = true ∧ e.mode = .running then restartScan e scanned else scanned, held.2) := by
  unfold endSurvey
  simp only [Bool.and_eq_true, decide_eq_true_eq]

theorem restartScan_survey (e : Env) (h : Hall) : (restartScan e h).matrix.survey = h.matrix.survey :=
  foldl_keeps (·.matrix.survey = h.matrix.survey) h.table.records _
    (fun b _ _ same => (restartOne_survey e b _).trans same) h rfl

theorem endSurvey_survey (e : Env) (sv : Survey) (h : Hall) : (endSurvey e sv h).1.matrix.survey = none := by
  rw [endSurvey_eq]
  have held (h : Hall) :
      (takeAllHeld e sv.held (reconstruct e (h.mapMatrix fun m => { m with survey := none })) none).1.matrix.survey =
        none := by
    rw [takeAllHeld_survey, reconstruct_survey]
    rfl
  dsimp only
  split <;> split <;> simp [restartScan_survey, held]

theorem restartOne_eq (e : Env) (b : Booking) (h : Hall) : restartOne e b h =
    match b.lastRun with
    | none => h
    | some d =>
      if b.state = .active ∧ e.now < endOn b.fields d ∧ b.outcome ≠ .missed ∧ b.outcome ≠ .tookLocal ∧
          b.outcome ≠ .cut then
        let cut := h.mapBooking b.fields.number fun r => { r with outcome := .cut }
        let t := b.fields.transmitter
        if (e.txConfig t).present = true ∧ (h.tx t).state ≠ .held ∧ (h.tx t).mode = .remote then
          readmit e b.fields.number d cut
        else cut
      else h := by
  unfold restartOne
  cases b.lastRun with
  | none => rfl
  | some d =>
    dsimp only
    by_cases ended : b.state ≠ .active ∨ endOn b.fields d ≤ e.now
    · have no : ¬ (b.state = .active ∧ e.now < endOn b.fields d ∧ b.outcome ≠ .missed ∧ b.outcome ≠ .tookLocal ∧
          b.outcome ≠ .cut) := fun ⟨active, on, _⟩ => ended.elim (absurd active) (Nat.not_le_of_lt on)
      rw [if_pos ended, if_neg no]
    · obtain ⟨active, on⟩ := not_or.mp ended
      rw [if_neg ended, ← ite_not]
      refine if_congr ?_ (if_congr ?_ rfl rfl) rfl
      · simp [not_not.mp active, Nat.not_le.mp on]
      · rw [Bool.and_eq_true, Bool.and_eq_true, bne_iff_ne, beq_iff_eq, and_assoc]
        rfl

/-- Settles O42: the survey's end, the reconstruction and the requests held, each read off its definition. -/
theorem surveyAndRequestsHeld : Obligations.SurveyAndRequestsHeld := by
  unfold Obligations.SurveyAndRequestsHeld
  refine ⟨⟨fun s sv => exec_surveyLimit, fun s => exec_surveyLimit_none,
      fun e sv h => ⟨endSurvey_eq e sv h, endSurvey_survey e sv h⟩, fun e h => rfl, restartOne_eq, unreported_stuck,
      fun s r c reading sv on surveying row column expected => ⟨fun more => ?early, fun last => ?last⟩,
      fun e r c reading h row column => ⟨surveyReport_xp e r c reading h row column, surveyReport_xp_ne e r c reading h,
        surveyReport_attention e r c reading h, fun sv => surveyReport_survey e r c reading h⟩⟩,
    ⟨fun e h => rfl, fun h => ⟨mem_duplicates h, allCrosspoints_ascend.filter _⟩, retakeLock_eq, fun asker a h => rfl⟩,
    fun s sv tag i code yes surveying which => ?held, fun e h tag a => ⟨rfl, rfl, rfl, rfl⟩,
    fun e h tag x r l => ⟨rfl, rfl, rfl⟩, fun e i l h a => ⟨rfl, takeAllHeld_cons e i l h a⟩⟩
  case early =>
    rw [exec_contactReport on row column, contact_survey_early on surveying expected more]
  case last =>
    rw [exec_contactReport on row column, contact_survey_last on surveying expected last, surveyOver_running on]
  case held =>
    rcases which with
      ⟨a, ⟨rfl, rfl⟩ | ⟨rfl, rfl⟩ | ⟨rfl, rfl⟩ | ⟨rfl, rfl⟩⟩ | ⟨x, rfl, rfl⟩ | ⟨r, rfl, rfl⟩ | ⟨r, rfl, rfl⟩
    all_goals exact congrArg _ (request_held yes surveying)

end Sys2Proof.Machine
end


section
/-! The changeover work of a carriage: what is asked for on entering WORKING, and what asking leaves as it stood (R78, R84, R104, R119). -/

namespace Sys2Proof.Machine

/-! ## The fields that requests for work leave (R78, R84, R104) -/

/-- Only requests differ: moves, routes and settings asked for of the matrix, tunes and orders of the transmitters, reports. -/
def OnlyWork (h h' : Hall) : Prop :=
  h' = { h with
    agenda := h'.agenda, txs := h'.txs, orders := h'.orders
    matrix := { h.matrix with queue := h'.matrix.queue, overflow := h'.matrix.overflow, routes := h'.matrix.routes
                              heldOpens := h'.matrix.heldOpens, antennas := h'.matrix.antennas } }

theorem OnlyWork.trans {a b c : Hall} (ab : OnlyWork a b) (bc : OnlyWork b c) : OnlyWork a c := by
  unfold OnlyWork at *
  rw [bc, ab]

theorem OnlyMoves.onlyWork {h h' : Hall} (only : OnlyMoves h h') : OnlyWork h h' := by
  rw [show h' = _ from only]
  rfl

section Fields

variable {h h' : Hall} (only : OnlyWork h h')

include only

theorem OnlyWork.carriage (t : Nat) : h'.carriage t = h.carriage t := by rw [show h' = _ from only]; rfl
theorem OnlyWork.claim (a : Nat) : h'.claim a = h.claim a := by rw [show h' = _ from only]; rfl
theorem OnlyWork.attention : h'.attention = h.attention := by rw [show h' = _ from only]

end Fields

theorem onlyWork_askSetting (e : Env) (t a : Nat) (x : Setting) (h : Hall) : OnlyWork h (askSetting e t a x h) := by
  unfold askSetting
  repeat' split
  all_goals rfl

theorem onlyWork_askTune (e : Env) (t f : Nat) (h : Hall) : OnlyWork h (askTune e t f h) := by
  unfold askTune
  split
  · rfl
  · split
    · rfl
    · rw [takeTune_frame]
      rfl

theorem onlyWork_askRoute (t a : Nat) (h : Hall) : OnlyWork h (askRoute t a h) := (onlyMoves_askRoute t a h).onlyWork

theorem askSetting_txs (e : Env) (t a : Nat) (x : Setting) (h : Hall) : (askSetting e t a x h).txs = h.txs := by
  unfold askSetting
  repeat' split
  all_goals rfl

theorem askTune_sameRf (e : Env) (t f : Nat) (h : Hall) : SameRf (h.tx t) ((askTune e t f h).tx t) := by
  unfold askTune
  split
  · exact ⟨rfl, rfl⟩
  · split
    · exact ⟨rfl, rfl⟩
    · exact takeTune_sameRf e t h f .carriage

/-! ## Entering WORKING (R119) -/

theorem carriage_some_lt {h : Hall} {t : Nat} {c : Carriage} (is : h.carriage t = some c) : t < 12 := by
  by_contra out
  have none' : h.carriage t = none := by
    unfold Hall.carriage read
    rw [Vector.getElem?_eq_none (Nat.le_of_not_lt out)]
    rfl
  rw [none'] at is
  exact absurd is nofun

theorem askRouteAndSetting_some {e : Env} {t : Nat} {c : Carriage} {h : Hall} (is : h.carriage t = some c) :
    askRouteAndSetting e t h = askSetting e t c.antenna c.setting (askRoute t c.antenna h) := by
  simp only [askRouteAndSetting, is]

theorem onlyWork_askRouteAndSetting (e : Env) (t : Nat) (h : Hall) : OnlyWork h (askRouteAndSetting e t h) := by
  unfold askRouteAndSetting
  split
  · rfl
  · exact (onlyWork_askRoute ..).trans (onlyWork_askSetting ..)

theorem askRouteAndSetting_txs (e : Env) (t : Nat) (h : Hall) : (askRouteAndSetting e t h).txs = h.txs := by
  unfold askRouteAndSetting
  split
  · rfl
  · exact (askSetting_txs ..).trans (onlyMoves_askRoute ..).txs

section Working

variable {e : Env} {t : Nat} {c : Carriage} {h : Hall} (is : h.carriage t = some c)

include is

theorem enterWorking_eq : enterWorking e t h =
    let asked := askSetting e t c.antenna c.setting
      (askRoute t c.antenna (h.setCarriage t (some { c with phase := .working })))
    if c.tuneDone = true then asked else askTune e t c.frequency asked := by
  have entered := carriage_setCarriage_same h t (some { c with phase := .working }) (carriage_some_lt is)
  simp only [enterWorking, is, askRouteAndSetting_some entered]

theorem onlyWork_enterWorking :
    OnlyWork (h.setCarriage t (some { c with phase := .working })) (enterWorking e t h) := by
  have asked := onlyWork_askRouteAndSetting e t (h.setCarriage t (some { c with phase := .working }))
  simp only [enterWorking, is]
  split
  · exact asked
  · exact asked.trans (onlyWork_askTune ..)

theorem enterWorking_sameRf : SameRf (h.tx t) ((enterWorking e t h).tx t) := by
  have asked : (askRouteAndSetting e t (h.setCarriage t (some { c with phase := .working }))).tx t = h.tx t :=
    congrArg (read · t) (askRouteAndSetting_txs e t _)
  simp only [enterWorking, is]
  split
  · rw [asked]
    exact ⟨rfl, rfl⟩
  · rw [← asked]
    exact askTune_sameRf e t c.frequency _

theorem workCheck_eq : workCheck e t h =
    if c.phase = .working ∧ c.routeDone = true ∧ c.tuneDone = true ∧ c.settingDone = true ∧ t ∉ h.keyAgain then
      if e.now < c.start then h.setCarriage t (some { c with phase := .ready })
      else rfOn e t c.power .carriage (h.setCarriage t (some { c with phase := .keying }))
    else h := by
  have done : (c.phase = .working && c.routeDone && c.tuneDone && c.settingDone && !h.keyAgain.contains t) = true ↔
      c.phase = .working ∧ c.routeDone = true ∧ c.tuneDone = true ∧ c.settingDone = true ∧ t ∉ h.keyAgain := by
    simp [and_assoc]
  simp only [workCheck, enterKeying, is]
  exact if_congr done rfl rfl

end Working

/-! ## What is asked of the matrix and the sequencer (R78, R80, R84, R104) -/

theorem askRoute_eq (t a : Nat) (h : Hall) : askRoute t a h =
    let left := withdrawRoute t h
    if rowRoute left t = some a then raise (.routeDone t a) left
    else if rowBlocked left t = true then raise (.routeFailed t a .rowBlocked) left
    else if colBlocked left a = true then raise (.routeFailed t a .columnBlocked) left
    else beginRoute t (some a) false (rowOpens left t (some a) ++ columnOpens left t a) left := rfl

theorem askSetting_eq (e : Env) (t a : Nat) (x : Setting) (h : Hall) : askSetting e t a x h =
    if h.claim a ≠ some t ∨ admits (e.antConfig a) x = false then h
    else if (h.antenna a).change = none ∧ (h.antenna a).setting = some x then raise (.settingDone t a x) h
    else h.setAntenna a fun y => { y with wanted := some x } := by
  refine if_congr ?_ rfl (if_congr ?_ rfl rfl)
  · rw [Bool.or_eq_true, decide_eq_true_eq, Bool.not_eq_true']
  · rw [Bool.and_eq_true, decide_eq_true_eq, Option.isNone_iff_eq_none]

theorem askTune_eq (e : Env) (t f : Nat) (h : Hall) : askTune e t f h =
    if (h.tx t).state = .held then raise (.held t) h
    else if f < (e.txConfig t).minFreq ∨ (e.txConfig t).maxFreq < f ∨ (h.tx t).rfEnable = true ∨ e.rfPresent t = true then h
    else takeTune e t f .carriage h := by
  have refused : (tuneRefusal e h t f).isSome = true ↔
      f < (e.txConfig t).minFreq ∨ (e.txConfig t).maxFreq < f ∨ (h.tx t).rfEnable = true ∨ e.rfPresent t = true := by
    rw [← rowLive_iff, ← or_assoc]
    unfold tuneRefusal
    by_cases range : f < (e.txConfig t).minFreq ∨ (e.txConfig t).maxFreq < f
    · rw [if_pos (by simpa using range)]
      exact ⟨fun _ => .inl range, fun _ => rfl⟩
    · rw [if_neg (by simpa using range)]
      cases rowLive e h t <;> simp [range]
  exact if_congr Iff.rfl rfl (if_congr refused rfl rfl)

theorem mem_rowOpens (h : Hall) (t : Nat) (column : Option Nat) (x : RowCol) : x ∈ rowOpens h t column ↔
    x.row = t ∧ x.col < 25 ∧ column ≠ some x.col ∧ (h.xp t x.col = .closed ∨ h.xp t x.col = .closing) := by
  obtain ⟨r, c⟩ := x
  simp only [rowOpens, List.mem_map, List.mem_filter, mem_allCols, RowCol.mk.injEq, Bool.and_eq_true, Bool.or_eq_true,
    bne_iff_ne, beq_iff_eq]
  exact ⟨fun ⟨_, ⟨lt, out, open'⟩, row, col⟩ => ⟨row.symm, col ▸ lt, col ▸ out, col ▸ open'⟩,
    fun ⟨row, lt, out, open'⟩ => ⟨c, ⟨lt, out, open'⟩, row.symm, rfl⟩⟩

theorem mem_columnOpens (h : Hall) (t a : Nat) (x : RowCol) : x ∈ columnOpens h t a ↔
    x.col = a ∧ x.row < 12 ∧ x.row ≠ t ∧ h.xp x.row a = .closed := by
  obtain ⟨r, c⟩ := x
  simp only [columnOpens, closedRows, List.mem_map, List.mem_filter, mem_allRows, RowCol.mk.injEq, bne_iff_ne, beq_iff_eq]
  exact ⟨fun ⟨_, ⟨⟨lt, closed⟩, other⟩, row, col⟩ => ⟨col.symm, row ▸ lt, row ▸ other, row ▸ closed⟩,
    fun ⟨col, lt, other, closed⟩ => ⟨r, ⟨⟨lt, closed⟩, other⟩, rfl, col.symm⟩⟩

theorem rowOpens_ascend (h : Hall) (t : Nat) (column : Option Nat) :
    (rowOpens h t column).Pairwise fun y z => y.col < z.col :=
  List.pairwise_map.mpr (List.pairwise_lt_range.filter _)

theorem columnOpens_ascend (h : Hall) (t a : Nat) : (columnOpens h t a).Pairwise fun y z => y.row < z.row :=
  List.pairwise_map.mpr ((List.pairwise_lt_range.filter _).filter _)

section Route

variable (t : Nat) (isLocal : Bool) (h : Hall) (row : t < 12)

include row

theorem beginRoute_none : beginRoute t none isLocal [] h = h.setRoute t none := by
  have step := routeStep_some (route_setRoute_same h t
    (some { column := none, opens := [], placed := false, isLocal := isLocal }) row)
  refine step.trans ?_
  simp [Hall.setRoute, Hall.mapMatrix, write_write]

theorem beginRoute_clear (a : Nat) : beginRoute t (some a) isLocal [] h =
    if h.xp t a = .closed then
      if isLocal = true then h.setRoute t none else raise (.routeDone t a) (h.setRoute t none)
    else askMove
      { row := t, col := a, close := true, safety := false, askers := [if isLocal then .localRoute t else .route t] }
      (h.setRoute t (some { column := some a, opens := [], placed := true, isLocal := isLocal })) := by
  have step := routeStep_some (route_setRoute_same h t
    (some { column := some a, opens := [], placed := false, isLocal := isLocal }) row)
  refine step.trans ?_
  simp only [ne_eq, not_true_eq_false, Bool.false_eq_true, or_self, if_false, Hall.setRoute, Hall.mapMatrix, write_write]
  rfl

end Route

end Sys2Proof.Machine
end


section
/-! A carriage opened, its reports, and its move to the alternate (R113, R115 to R120, R130): O51. -/

namespace Sys2Proof.Machine

/-! ## A column outside the matrix is not usable (R81) -/

theorem usable_lt {e : Env} {h : Hall} {t a : Nat} (fits : usable e h t a = true) : a < 25 := by
  obtain ⟨present, -⟩ := (usable_iff e h t a).mp fits
  by_contra out
  have absent : (e.antConfig a).present = false := by
    unfold Env.antConfig
    rw [Vector.getElem?_eq_none (Nat.le_of_not_lt out)]
    rfl
  exact absurd (present.symm.trans absent) nofun

/-! ## A carriage opens (R115, R116, R118, R119) -/

section Opening

variable (e : Env) (t a : Nat) (b : Offered) (w : Waiting) (x : Setting) (h : Hall)

/-- A carriage claimed for, posted and reported, before its changeover work (R116). -/
def carriageEntered : Hall :=
  let claimed := grantClaim e t a h
  let posted := if a = b.antenna then claimed else post e .substituted b.number claimed
  refresh e t ((posted.setCarriage t (some (newCarriage e t b w a x))).setTx t fun y => { y with state := .serving })

theorem claimed_frame : (if a = b.antenna then grantClaim e t a h else post e .substituted b.number (grantClaim e t a h)) =
    { h with matrix := (grantClaim e t a h).matrix
             attention := if a = b.antenna then h.attention else h.attention.post e.mask .substituted b.number } := by
  split
  · exact grantClaim_frame e t a h
  · exact congrArg (post e .substituted b.number) (grantClaim_frame e t a h)

theorem entered_carriage (row : t < 12) : (carriageEntered e t a b w x h).carriage t = some (newCarriage e t b w a x) :=
  ((onlyCues_refresh e t _).carriage t).trans (carriage_setCarriage_same _ t _ row)

theorem entered_carriage_ne {u : Nat} (ne : u ≠ t) : (carriageEntered e t a b w x h).carriage u = h.carriage u := by
  refine ((onlyCues_refresh e t _).carriage u).trans ((carriage_setCarriage_ne _ t u _ ne).trans ?_)
  rw [claimed_frame]
  rfl

theorem entered_claim (fits : usable e h t a = true) : (carriageEntered e t a b w x h).claim a = some t := by
  have claimed := congrArg (fun h : Hall => h.claim a) (claimed_frame e t a b h)
  exact ((onlyCues_refresh e t _).claim a).trans (claimed.trans (grantClaim_claim (usable_lt fits) (.inr fits)))

theorem entered_tx (row : t < 12) : (carriageEntered e t a b w x h).tx t = { h.tx t with state := .serving } := by
  refine ((onlyCues_refresh e t _).tx t).trans ((tx_setTx_same _ t _ row).trans ?_)
  rw [claimed_frame]
  rfl

theorem openCarriage_eq (row : t < 12) : openCarriage e t b w a x h =
    if (h.tx t).rfEnable = true ∨ e.rfPresent t = true then
      rfOff e t ((carriageEntered e t a b w x h).setCarriage t (some { newCarriage e t b w a x with phase := .rfDown }))
    else enterWorking e t (carriageEntered e t a b w x h) := by
  have live : rowLive e (carriageEntered e t a b w x h) t = true ↔ (h.tx t).rfEnable = true ∨ e.rfPresent t = true := by
    rw [rowLive_iff, entered_tx e t a b w x h row]
  have down : (carriageEntered e t a b w x h).mapCarriage t (fun c => { c with phase := .rfDown }) =
      (carriageEntered e t a b w x h).setCarriage t (some { newCarriage e t b w a x with phase := .rfDown }) := by
    rw [Hall.mapCarriage, entered_carriage e t a b w x h row]
    rfl
  have opened : openCarriage e t b w a x h =
      if rowLive e (carriageEntered e t a b w x h) t = true then enterRfDown e t (carriageEntered e t a b w x h)
      else enterWorking e t (carriageEntered e t a b w x h) := rfl
  rw [opened, enterRfDown, down]
  exact if_congr live rfl rfl

/-- The carriage with which an occurrence opens: in RF_DOWN over a live row, else in WORKING (R116, R118). -/
def openedCarriage : Carriage :=
  { newCarriage e t b w a x with
    phase := if (h.tx t).rfEnable = true ∨ e.rfPresent t = true then .rfDown else .working }

section Facts

variable {e t a} (row : t < 12) (fits : usable e h t a = true)

include row fits

theorem openCarriage_live (live : (h.tx t).rfEnable = true ∨ e.rfPresent t = true) :
    let opened := openCarriage e t b w a x h
    opened.carriage t = some { newCarriage e t b w a x with phase := .rfDown } ∧
    (∀ u, u ≠ t → opened.carriage u = h.carriage u) ∧ opened.claim a = some t ∧
    (opened.tx t).state = .serving ∧ (opened.tx t).rfEnable = false := by
  have entered := entered_tx e t a b w x h row
  dsimp only
  rw [openCarriage_eq e t a b w x h row, if_pos live]
  refine ⟨?_, fun u ne => ?_, ?_, ?_, rfOff_rfEnable e t _ row⟩
  · rw [rfOff_carriage, carriage_setCarriage_same _ t _ row]
  · rw [rfOff_carriage, carriage_setCarriage_ne _ t u _ ne, entered_carriage_ne e t a b w x h ne]
  · exact (rfOff_claim e t _ a).trans (entered_claim e t a b w x h fits)
  · exact (rfOff_state e _ row).trans (congrArg Tx.state entered)

theorem openCarriage_dark (dark : ¬ ((h.tx t).rfEnable = true ∨ e.rfPresent t = true)) :
    let opened := openCarriage e t b w a x h
    opened.carriage t = some (newCarriage e t b w a x) ∧
    (∀ u, u ≠ t → opened.carriage u = h.carriage u) ∧ opened.claim a = some t ∧
    (opened.tx t).state = .serving ∧ (opened.tx t).rfEnable = false := by
  have is := entered_carriage e t a b w x h row
  have work := onlyWork_enterWorking (e := e) is
  obtain ⟨state, enable⟩ := enterWorking_sameRf (e := e) is
  have off : (h.tx t).rfEnable = false := Bool.eq_false_iff.mpr fun on => dark (.inl on)
  rw [entered_tx e t a b w x h row] at state enable
  dsimp only
  rw [openCarriage_eq e t a b w x h row, if_neg dark]
  refine ⟨?_, fun u ne => ?_, ?_, state, enable.trans off⟩
  · rw [work.carriage, carriage_setCarriage_same _ t _ row]
    rfl
  · rw [work.carriage, carriage_setCarriage_ne _ t u _ ne, entered_carriage_ne e t a b w x h ne]
  · exact (work.claim a).trans (entered_claim e t a b w x h fits)

theorem openCarriage_opened :
    let opened := openCarriage e t b w a x h
    opened.carriage t = some (openedCarriage e t a b w x h) ∧
    (∀ u, u ≠ t → opened.carriage u = h.carriage u) ∧ opened.claim a = some t ∧
    (opened.tx t).state = .serving ∧ (opened.tx t).rfEnable = false ∧ opened.table = h.table := by
  have table : (openCarriage e t b w a x h).table = h.table := table_of_books (openCarriage_books e t b w a x h)
  unfold openedCarriage
  by_cases live : (h.tx t).rfEnable = true ∨ e.rfPresent t = true
  · rw [if_pos live]
    obtain ⟨carried, others, claimed, state, enable⟩ := openCarriage_live b w x h row fits live
    exact ⟨carried, others, claimed, state, enable, table⟩
  · rw [if_neg live]
    obtain ⟨carried, others, claimed, state, enable⟩ := openCarriage_dark b w x h row fits live
    exact ⟨carried, others, claimed, state, enable, table⟩

end Facts

end Opening

/-! ## A PREPARE (R23, R113, R115) -/

/-- The hall in which a cue has been taken: the last run day set, the readmission list left (R23). -/
def cueTaken (cue : Cue) (h : Hall) : Hall :=
  (setLastRun cue.booking cue.day h).mapLookahead fun l =>
    { l with readmit := l.readmit.filter fun o => !(o.booking == cue.booking && o.day == cue.day) }

/-- An attempt to open, by the refusals in order and then the antennas in order (R115). -/
theorem tryOpen_eq (e : Env) (t : Nat) (b : Offered) (w : Waiting) (h : Hall) : tryOpen e t b w h =
    if e.mode = .stopped then settleOutcome e b.number .missed h
    else if (h.tx t).mode = .console then settleOutcome e b.number .tookLocal h
    else if (h.tx t).state = .held ∨ rowBlocked h t = true then settleOutcome e b.number .missed h
    else if usable e h t b.antenna = true then openCarriage e t b w b.antenna b.setting h
    else match b.alternate with
      | some a =>
        if usable e h t a = true then openCarriage e t b w a (alternateSetting (e.antConfig a) b.setting) h
        else settleOutcome e b.number .missed h
      | none => settleOutcome e b.number .missed h := by
  unfold tryOpen openRefusal
  by_cases stopped : e.mode = .stopped
  · rw [if_pos stopped, if_pos stopped]
  · rw [if_neg stopped, if_neg stopped]
    by_cases console : (h.tx t).mode = .console
    · rw [if_pos console, if_pos console]
    · rw [if_neg console, if_neg console]
      by_cases held : (h.tx t).state = .held
      · rw [if_pos held, if_pos (.inl held)]
      · rw [if_neg held]
        by_cases blocked : rowBlocked h t = true
        · rw [if_pos blocked, if_pos (.inr blocked)]
        · rw [if_neg blocked, if_neg (not_or.mpr ⟨held, blocked⟩)]
          unfold resolve
          by_cases main : usable e h t b.antenna = true
          · rw [if_pos main, resolveBy_main main]
          · rw [if_neg main]
            have main' := Bool.eq_false_iff.mpr main
            cases alternate : b.alternate with
            | none => rw [resolveBy_none main' (by simp [alternate])]
            | some a =>
              dsimp only
              by_cases fits : usable e h t a = true
              · rw [if_pos fits, resolveBy_alternate main' alternate fits]
              · have fits' : ∀ a, b.alternate = some a → usable e h t a = false := fun a' is => by
                  rw [alternate] at is
                  cases is
                  exact Bool.eq_false_iff.mpr fits
                rw [if_neg fits, resolveBy_none main' fits']

theorem takePrepare_eq {e : Env} {cue : Cue} {b : Booking} {h : Hall} (booked : h.booking cue.booking = some b) :
    takePrepare e cue h =
      let t := b.fields.transmitter
      let w : Waiting := { booking := cue.booking, day := cue.day, lead := cue.lead, said := cue.said }
      if endOn b.fields cue.day ≤ e.now then settleOutcome e cue.booking .missed (cueTaken cue h)
      else if (h.carriage t).isSome = true then
        if ∃ x ∈ h.waitingList t, x.booking = cue.booking ∧ x.day = cue.day then cueTaken cue h
        else (cueTaken cue h).setWaiting t (h.waitingList t ++ [w])
      else tryOpen e t b.fields w (cueTaken cue h) := by
  have waits : ((h.waitingList b.fields.transmitter).any fun x => x.booking == cue.booking && x.day == cue.day) = true ↔
      ∃ x ∈ h.waitingList b.fields.transmitter, x.booking = cue.booking ∧ x.day = cue.day := by
    simp
  unfold takePrepare
  rw [booked]
  exact if_congr Iff.rfl rfl (if_congr Iff.rfl (if_congr waits rfl rfl) rfl)

/-! ## The reports of the changeover work (R118 to R120) -/

theorem early_iff (p : Phase) : p.early = true ↔ p = .rfDown ∨ p = .working ∨ p = .ready := by
  cases p <;> simp [Phase.early]

section Reports

variable {e : Env} {t : Nat} {c : Carriage} {h : Hall} (is : h.carriage t = some c)

include is

theorem onRfOff_eq : onRfOff e t h =
    if e.rfPresent t = true then h
    else if c.phase = .rfDown then enterWorking e t h
    else if c.phase = .ending then endCarriage e t h else h := by
  simp only [onRfOff, is]

theorem onWorkDone_eq (fits : Carriage → Bool) (mark : Carriage → Carriage) : onWorkDone e t fits mark h =
    if fits c = true then workCheck e t (h.setCarriage t (some (mark c))) else h := by
  simp only [onWorkDone, is]

theorem onWorkFailed_eq (a : Nat) (rowFault : Bool) : onWorkFailed e t a rowFault h =
    if (c.phase = .rfDown ∨ c.phase = .working ∨ c.phase = .ready) ∧ c.antenna = a then
      if rowFault = true then endWith e t c.lost h else resolveAgain e t h
    else h := by
  have early : (c.phase.early && decide (c.antenna = a)) = true ↔
      (c.phase = .rfDown ∨ c.phase = .working ∨ c.phase = .ready) ∧ c.antenna = a := by
    rw [Bool.and_eq_true, early_iff, decide_eq_true_eq]
  simp only [onWorkFailed, is]
  exact if_congr early rfl rfl

theorem takeReport_tuneDone (f : Nat) : takeReport e (.tuneDone t f) h =
    if (c.phase = .working ∨ c.phase = .rfDown) ∧ c.frequency = f then
      workCheck e t (h.setCarriage t (some { c with tuneDone := true })) else h := by
  refine (onWorkDone_eq is _ _).trans (if_congr ?_ rfl rfl)
  simp

theorem takeReport_routeDone (a : Nat) : takeReport e (.routeDone t a) h =
    if c.phase = .working ∧ c.antenna = a then
      workCheck e t (h.setCarriage t (some { c with routeDone := true })) else h := by
  refine (onWorkDone_eq is _ _).trans (if_congr ?_ rfl rfl)
  simp

theorem takeReport_settingDone (a : Nat) (x : Setting) : takeReport e (.settingDone t a x) h =
    if c.phase = .working ∧ c.antenna = a ∧ c.setting = x then
      workCheck e t (h.setCarriage t (some { c with settingDone := true })) else h := by
  refine (onWorkDone_eq is _ _).trans (if_congr ?_ rfl rfl)
  simp [and_assoc]

theorem takeReport_routeFailed (a : Nat) (why : RouteFailure) : takeReport e (.routeFailed t a why) h =
    if (c.phase = .rfDown ∨ c.phase = .working ∨ c.phase = .ready) ∧ c.antenna = a then
      if why = .rowBlocked then endWith e t c.lost h else resolveAgain e t h
    else h :=
  (onWorkFailed_eq is a _).trans (if_congr Iff.rfl (if_congr beq_iff_eq rfl rfl) rfl)

theorem takeReport_settingFailed (a : Nat) : takeReport e (.settingFailed t a) h =
    if (c.phase = .rfDown ∨ c.phase = .working ∨ c.phase = .ready) ∧ c.antenna = a then resolveAgain e t h else h :=
  onWorkFailed_eq is a false

theorem takeReport_rowBlocked : takeReport e (.rowBlocked t) h =
    if rowBlocked h t = true ∧ (c.phase = .rfDown ∨ c.phase = .working ∨ c.phase = .ready) then endWith e t c.lost h
    else h := by
  have failed := onWorkFailed_eq (e := e) is c.antenna true
  simp only [and_true, if_true] at failed
  have taken : takeReport e (.rowBlocked t) h = if rowBlocked h t = true then onWorkFailed e t c.antenna true h else h := by
    simp only [takeReport, is]
  rw [taken, failed, ite_and]

theorem takeReport_columnBlocked (a : Nat) : takeReport e (.columnBlocked t a) h =
    if colBlocked h a = true ∧ (c.phase = .rfDown ∨ c.phase = .working ∨ c.phase = .ready) ∧ c.antenna = a then
      resolveAgain e t h
    else h := by
  have failed := onWorkFailed_eq (e := e) is a false
  simp only [Bool.false_eq_true, if_false] at failed
  rw [ite_and, ← failed]
  rfl

end Reports

/-! ## The move to the alternate (R120) -/

section Resolve

variable {e : Env} {t : Nat} {c : Carriage} {h : Hall}

theorem freeAlternate_some (a : Nat) (x : Setting) : freeAlternate e h t c = some (a, x) ↔
    ∃ b, h.booking c.booking = some b ∧ b.fields.alternate = some a ∧
      usable e h t a = true ∧ x = alternateSetting (e.antConfig a) b.fields.setting := by
  unfold freeAlternate
  cases h.booking c.booking with
  | none => simp
  | some b =>
    cases alternate : b.fields.alternate with
    | none => simp [alternate]
    | some d =>
      simp only [alternate, Option.ite_none_right_eq_some, Option.some.injEq, Prod.mk.injEq]
      constructor
      · rintro ⟨fits, rfl, rfl⟩
        exact ⟨b, rfl, alternate, fits, rfl⟩
      · rintro ⟨b', rfl, is, fits, rfl⟩
        obtain rfl := Option.some.inj (alternate.symm.trans is)
        exact ⟨fits, rfl, rfl⟩

/-- A carriage as it stands once it has moved to its alternate (R120). -/
def Carriage.moved (c : Carriage) (a : Nat) (x : Setting) : Carriage :=
  { c with antenna := a, setting := x, substituted := true, routeDone := false, settingDone := false }

variable {a : Nat} {x : Setting}

theorem moveToAlternate_carriage (row : t < 12) : (moveToAlternate e t a x c h).carriage t = some (c.moved a x) :=
  ((onlyCues_refresh e t _).carriage t).trans (carriage_setCarriage_same _ t _ row)

theorem moveToAlternate_claim (fits : usable e h t a = true) : (moveToAlternate e t a x c h).claim a = some t :=
  ((onlyCues_refresh e t _).claim a).trans (grantClaim_claim (usable_lt fits) (.inr fits))

theorem moveToAlternate_posted :
    read (moveToAlternate e t a x c h).attention.planning EventKind.substituted.bit = some c.booking :=
  (scan_planning e [t] _ .substituted nofun nofun nofun).trans (planning_post_same _ _ _ _)

section Other

/-- The alternate that a carriage on its main antenna could move to (R120). -/
def otherAntenna (e : Env) (t : Nat) (c : Carriage) (h : Hall) : Option (Nat × Setting) :=
  if (h.booking c.booking).any (fun b => b.fields.antenna == c.antenna) = true then freeAlternate e h t c else none

variable (is : h.carriage t = some c)

include is

theorem resolveAgain_ends (none' : otherAntenna e t c h = none) : resolveAgain e t h = endWith e t c.lost h := by
  unfold otherAntenna at none'
  simp only [resolveAgain, is, none']

theorem resolveAgain_moves (other : otherAntenna e t c h = some (a, x)) : resolveAgain e t h =
    if c.phase = .rfDown then moveToAlternate e t a x c h
    else askRouteAndSetting e t ((moveToAlternate e t a x c h).mapCarriage t fun c => { c with phase := .working }) := by
  unfold otherAntenna at other
  simp only [resolveAgain, is, other]

theorem resolveAgain_moved (other : otherAntenna e t c h = some (a, x)) :
    (resolveAgain e t h).carriage t = some
      { c.moved a x with phase := if c.phase = .rfDown then .rfDown else .working } ∧
    (resolveAgain e t h).claim a = some t ∧
    read (resolveAgain e t h).attention.planning EventKind.substituted.bit = some c.booking := by
  have row := carriage_some_lt is
  have fits : usable e h t a = true := by
    unfold otherAntenna at other
    split at other
    · obtain ⟨b, -, -, fits, -⟩ := (freeAlternate_some a x).mp other
      exact fits
    · exact absurd other nofun
  have carried := moveToAlternate_carriage (e := e) (c := c) (h := h) (a := a) (x := x) row
  have claimed := moveToAlternate_claim (c := c) (x := x) fits
  have posted := moveToAlternate_posted (e := e) (t := t) (c := c) (h := h) (a := a) (x := x)
  rw [resolveAgain_moves is other]
  by_cases down : c.phase = .rfDown
  · rw [if_pos down, if_pos down]
    refine ⟨carried.trans ?_, claimed, posted⟩
    rw [← down]
    rfl
  · rw [if_neg down, if_neg down]
    have asked := onlyWork_askRouteAndSetting e t
      ((moveToAlternate e t a x c h).mapCarriage t fun c => { c with phase := .working })
    refine ⟨?_, (asked.claim a).trans claimed, ?_⟩
    · rw [asked.carriage, mapCarriage_same row carried]
    · rw [asked.attention]
      exact posted

end Other

end Resolve

theorem reprepare_facts {e : Env} {t : Nat} {c : Carriage} {retune : Bool} {h : Hall} (row : t < 12)
    (is : h.carriage t = some c) :
    (reprepare e t retune h).carriage t = some (brokenOff e retune c) ∧
    ((reprepare e t retune h).tx t).rfEnable = false ∧
    ((reprepare e t retune h).tx t).state = (if (h.tx t).state = .recycling then .serving else (h.tx t).state) ∧
    ((reprepare e t retune h).monitor t).recycle =
      (if (h.tx t).state = .recycling then none else (h.monitor t).recycle) := by
  have broken := carriage_setCarriage_same h t (some (brokenOff e retune c)) row
  rw [reprepare_eq row is, rfOff_carriage, rfOff_state e _ row, rfOff_monitor]
  refine ⟨?_, rfOff_rfEnable e t _ row, ?_⟩
  · split <;> exact broken
  · by_cases recycles : (h.tx t).state = .recycling
    · rw [if_pos recycles, if_pos recycles, if_pos recycles]
      exact ⟨congrArg Tx.state (tx_setTx_same _ t _ row), congrArg Monitor.recycle (monitor_setMonitor_same _ t _ row)⟩
    · rw [if_neg recycles, if_neg recycles, if_neg recycles]
      exact ⟨rfl, rfl⟩

/-- Settles O51: a PREPARE by its refusals, the opening by the row's RF, and each report by the phase it fits. -/
theorem prepareOpensACarriage : Obligations.PrepareOpensACarriage := by
  unfold Obligations.PrepareOpensACarriage
  refine ⟨usable_iff, fun e cue b h booked => ?prepare, fun e t a b w x h row column fits => ?opening,
    fun e t c h is => ⟨enterWorking_eq is, workCheck_eq is⟩,
    fun e t a f x h => ⟨askRoute_eq t a h, askSetting_eq e t a x h, askTune_eq e t f h⟩,
    ⟨fun h t a column x => ⟨mem_rowOpens h t column x, mem_columnOpens h t a x, rowOpens_ascend h t column,
        columnOpens_ascend h t a⟩, fun t column isLocal opens h => rfl,
      fun t isLocal h row => ⟨beginRoute_none t isLocal h row, beginRoute_clear t isLocal h row⟩⟩,
    fun e t c h row is => ⟨onRfOff_eq is, takeReport_tuneDone is, takeReport_routeDone is, takeReport_settingDone is,
      takeReport_routeFailed is, takeReport_settingFailed is, takeReport_rowBlocked is, takeReport_columnBlocked is⟩,
    fun e t c h row is => ⟨freeAlternate_some, resolveAgain_ends is, fun a x => resolveAgain_moved is⟩,
    fun e t c retune h row is => ⟨reprepare_eq row is, reprepare_facts row is⟩⟩
  case prepare =>
    rw [takePrepare_eq booked]
    dsimp only
    rw [tryOpen_eq]
    rfl
  case opening =>
    have substitutes := (bne_eq_decide_ne a b.antenna).symm
    dsimp only
    rw [substitutes]
    refine ⟨?_, openCarriage_opened b w x h row fits⟩
    rw [openCarriage_eq e t a b w x h row]
    by_cases live : (h.tx t).rfEnable = true ∨ e.rfPresent t = true
    · simp only [if_pos live]
      rfl
    · simp only [if_neg live]
      rfl

end Sys2Proof.Machine
end


section
/-! What a carriage's end leaves of the table, the matrix and its transmitter (R95, R114, R127, R144). -/

namespace Sys2Proof.Machine

/-! ## What the table does at a carriage's end (R24, R154, R155) -/

/-- Every record of a number has this outcome. -/
def OutcomesOf (n : Nat) (o : RunOutcome) (h : Hall) : Prop :=
  ∀ r ∈ h.table.records, r.fields.number = n → r.outcome = o

/-- A step of the table that leaves carriages, matrix and transmitters, settled outcomes and their summaries. -/
structure ServiceKeeps (h h' : Hall) : Prop where
  frame : h' = { h with table := h'.table, calendar := h'.calendar, lookahead := h'.lookahead
                        attention := h'.attention, parked := h'.parked, resume := h'.resume }
  outcomes : ∀ n o, OutcomesOf n o h → OutcomesOf n o h'
  planning : ∀ k, k = EventKind.missed ∨ k = EventKind.cut →
    read h'.attention.planning k.bit = read h.attention.planning k.bit

namespace ServiceKeeps

variable {a b c h : Hall}

theorem refl (h : Hall) : ServiceKeeps h h := ⟨rfl, fun _ _ ok => ok, fun _ _ => rfl⟩

theorem trans (ab : ServiceKeeps a b) (bc : ServiceKeeps b c) : ServiceKeeps a c := by
  refine ⟨?_, fun n o ok => bc.outcomes n o (ab.outcomes n o ok), fun k is => (bc.planning k is).trans (ab.planning k is)⟩
  rw [bc.frame, ab.frame]

/-- A step that leaves the records is one when it leaves the rest. -/
theorem of_records (frame : b = { a with table := b.table, calendar := b.calendar, lookahead := b.lookahead
                                         attention := b.attention, parked := b.parked, resume := b.resume })
    (records : b.table.records = a.table.records)
    (planning : ∀ k, k = EventKind.missed ∨ k = EventKind.cut →
      read b.attention.planning k.bit = read a.attention.planning k.bit) : ServiceKeeps a b :=
  ⟨frame, fun n o ok => by unfold OutcomesOf; rw [records]; exact ok, planning⟩

theorem scan (e : Env) (ts : List Nat) (h : Hall) : ServiceKeeps h (scan e ts h) := by
  have cues := onlyCues_scan e ts h
  refine of_records (by rw [show Machine.scan e ts h = _ from cues]) (by rw [show Machine.scan e ts h = _ from cues]) ?_
  rintro k (rfl | rfl) <;> exact scan_planning e ts h _ nofun nofun nofun

theorem post (e : Env) {k : EventKind} (v : Nat) (h : Hall) (missed : k ≠ .missed) (cut : k ≠ .cut) :
    ServiceKeeps h (post e k v h) := by
  refine of_records rfl rfl ?_
  rintro j (rfl | rfl)
  · exact planning_post_ne _ _ _ missed.symm
  · exact planning_post_ne _ _ _ cut.symm

theorem setSlot (t : Nat) (r : Option Offered) (h : Hall) : ServiceKeeps h (h.setSlot t r) :=
  of_records rfl rfl fun _ _ => rfl

theorem seasonTest (e : Env) (season : Nat) (h : Hall) : ServiceKeeps h (seasonTest e season h) := by
  have entries := onlyEntries_seasonTest e season h
  refine of_records ?_ ?_ fun k _ => ?_
  · rw [show Machine.seasonTest e season h = _ from entries]
  · rw [show Machine.seasonTest e season h = _ from entries]
  · rw [show Machine.seasonTest e season h = _ from entries]

theorem nearlyFullTest (e : Env) (h : Hall) : ServiceKeeps h (nearlyFullTest e h) := by
  refine of_records (by rw [nearlyFullTest_frame]) (nearlyFullTest_records e h) ?_
  rw [nearlyFullTest_eq]
  rintro k (rfl | rfl)
  · repeat' split
    · rfl
    · exact planning_post_ne _ _ _ nofun
    · rfl
  · repeat' split
    · rfl
    · exact planning_post_ne _ _ _ nofun
    · rfl

/-- Records taken out, with entries of the lists that name them. -/
theorem removeBookings (e : Env) (gone : List Booking) (h : Hall) : ServiceKeeps h (removeBookings e gone h) := by
  have unlisted : ServiceKeeps h { h with
      table := { h.table with records := h.table.records.filter (!gone.any fun b => b.fields.number == ·.fields.number) }
      lookahead := { h.lookahead with
        readmit := h.lookahead.readmit.filter (!gone.any fun b => b.fields.number == ·.booking) }
      resume := h.resume.filter (!gone.any fun b => b.fields.number == ·.booking) } :=
    ⟨rfl, fun n o ok r mem => ok r (List.mem_filter.mp mem).1, fun _ _ => rfl⟩
  exact foldl_keeps (ServiceKeeps h) gone _ (fun _ _ _ keeps => keeps.trans (seasonTest e _ _)) _
    (unlisted.trans (scan e _ _))

theorem mapBooking (n : Nat) (f : Booking → Booking) (same : ∀ r, r.fields.number = n →
    (f r).fields.number = n ∧ (f r).outcome = r.outcome) (h : Hall) : ServiceKeeps h (h.mapBooking n f) := by
  refine ⟨rfl, fun m o ok r mem is => ?_, fun _ _ => rfl⟩
  rw [mapBooking_records] at mem
  obtain ⟨old, stood, rfl⟩ := List.mem_map.mp mem
  by_cases named : old.fields.number = n
  · rw [if_pos named] at is ⊢
    obtain ⟨number, outcome⟩ := same old named
    rw [outcome]
    exact ok old stood (named.trans (number.symm.trans is))
  · rw [if_neg named] at is ⊢
    exact ok old stood is

theorem replaceBooking (e : Env) (b : Offered) (h : Hall) : ServiceKeeps h (replaceBooking e b h) := by
  unfold Machine.replaceBooking
  split
  · exact refl h
  · exact (mapBooking b.number (fun r => { r with fields := b, state := .active }) (fun r _ => ⟨rfl, rfl⟩) h).trans
      (scan e _ _)

theorem applyParked (e : Env) (t : Nat) (h : Hall) : ServiceKeeps h (applyParked e t h) := by
  unfold Machine.applyParked
  split
  · exact refl h
  · next p _ =>
    have applied : ServiceKeeps h (Machine.post e .amendmentApplied p.number (Machine.replaceBooking e p (h.setSlot t none))) :=
      ((setSlot t none h).trans (replaceBooking e p _)).trans (post e p.number _ nofun nofun)
    dsimp only
    cases h.booking p.number with
    | none => exact applied
    | some b => exact applied.trans (seasonTest e _ _)

theorem removeBooking (e : Env) (n : Nat) (h : Hall) : ServiceKeeps h (removeBooking e n h) := by
  unfold Machine.removeBooking
  split
  · exact refl h
  · exact (removeBookings e _ h).trans (nearlyFullTest e _)

theorem retire (e : Env) (tested : List Booking) (h : Hall) : ServiceKeeps h (retire e tested h) := by
  unfold Machine.retire
  dsimp only
  split
  · exact refl h
  · exact ((post e (k := .retired) _ h nofun nofun).trans (removeBookings e _ _)).trans (nearlyFullTest e _)

theorem serviceOver (e : Env) (t n : Nat) (h : Hall) : ServiceKeeps h (serviceOver e t n h) := by
  have applied := applyParked e t h
  unfold Machine.serviceOver
  dsimp only
  split
  · exact (applied.trans (removeBooking e n _)).trans (retire e _ _)
  · exact applied.trans (retire e _ _)

end ServiceKeeps

/-! ## An outcome settled (R114) -/

section Settle

variable (e : Env) (n : Nat) (o : RunOutcome) (h : Hall)

theorem settleOutcome_frame : settleOutcome e n o h = { h with
    table := (settleOutcome e n o h).table, attention := (settleOutcome e n o h).attention } := by
  unfold settleOutcome
  dsimp only
  repeat' split
  all_goals rfl

theorem settleOutcome_records : (settleOutcome e n o h).table.records =
    h.table.records.map fun r => if r.fields.number = n then { r with outcome := o } else r := by
  have written : (settleOutcome e n o h).table.records = (writeOutcome n o h).table.records := by
    unfold settleOutcome
    dsimp only
    repeat' split
    all_goals rfl
  exact written.trans (mapBooking_records h n _)

theorem settleOutcome_outcomes : OutcomesOf n o (settleOutcome e n o h) := by
  intro r mem is
  rw [settleOutcome_records] at mem
  obtain ⟨old, -, rfl⟩ := List.mem_map.mp mem
  by_cases named : old.fields.number = n
  · rw [if_pos named]
  · rw [if_neg named] at is
    exact absurd is named

theorem settleOutcome_missed : read (settleOutcome e n .missed h).attention.planning EventKind.missed.bit = some n :=
  planning_post_same _ _ _ _

theorem settleOutcome_cut : read (settleOutcome e n .cut h).attention.planning EventKind.cut.bit = some n :=
  planning_post_same _ _ _ _

end Settle

/-! ## A tune withdrawn looks at the transmitters alone (R104, R106) -/

/-- The hall with another table and other summaries, as a settled outcome leaves it. -/
def Hall.withBooked (table : Table) (attention : Attention) (h : Hall) : Hall :=
  { h with table := table, attention := attention }

section Withdraw

variable (e : Env) (t : Nat) (table : Table) (attention : Attention) (h : Hall)

theorem takeTune_withBooked (f : Nat) (who : Requester) :
    takeTune e t f who (h.withBooked table attention) = (takeTune e t f who h).withBooked table attention := by
  unfold takeTune startTune tellTuned sendTx
  simp only [apply_ite (Hall.withBooked table attention)]
  rfl

theorem takePendingTune_withBooked :
    takePendingTune e t (h.withBooked table attention) = (takePendingTune e t h).withBooked table attention := by
  have tx : (h.withBooked table attention).tx t = h.tx t := rfl
  unfold takePendingTune
  rw [tx]
  split
  · rfl
  · simp only [apply_ite (Hall.withBooked table attention), ← takeTune_withBooked]
    rfl

theorem withdrawTune_withBooked :
    withdrawTune e t (h.withBooked table attention) = (withdrawTune e t h).withBooked table attention := by
  unfold withdrawTune
  dsimp only
  have tx (f : Tx → Tx) : ((h.withBooked table attention).setTx t f).tx t = (h.setTx t f).tx t := rfl
  rw [tx]
  split
  · simp only [apply_ite (Hall.withBooked table attention), ← takePendingTune_withBooked]
    rfl
  · rfl

theorem withdrawTune_settled (n : Nat) (o : RunOutcome) :
    (withdrawTune e t (settleOutcome e n o h)).tx t = (withdrawTune e t h).tx t := by
  have frame : settleOutcome e n o h =
      h.withBooked (settleOutcome e n o h).table (settleOutcome e n o h).attention := settleOutcome_frame e n o h
  rw [frame, withdrawTune_withBooked]
  rfl

end Withdraw

end Sys2Proof.Machine
end


section
/-! The end of a carriage, what it releases and what is reached after it (R69, R113, R122, R127, R128): O53. -/

namespace Sys2Proof.Machine

/-! ## What stands between a carriage's end and the next entry (R127) -/

section Left

variable (e : Env) {t : Nat} (c : Carriage) (h : Hall)

/-- The hall of a carriage's end before its waiting list is reached (R127). -/
def carriageLeft (t : Nat) : Hall :=
  refresh e t (serviceOver e t c.booking (detach e t (settleOutcome e c.booking c.outcome h)))

theorem serviceKeeps_left (t : Nat) :
    ServiceKeeps (detach e t (settleOutcome e c.booking c.outcome h)) (carriageLeft e c h t) :=
  (ServiceKeeps.serviceOver e t c.booking _).trans (.scan e [t] _)

theorem releaseAny_settled (n : Nat) (o : RunOutcome) (t : Nat) :
    (releaseAny t (settleOutcome e n o h)).matrix = (releaseAny t h).matrix := by
  have claims : claimOf (settleOutcome e n o h) t = claimOf h t := by
    rw [settleOutcome_frame]
    rfl
  unfold releaseAny
  rw [claims, settleOutcome_frame]
  split <;> rfl

theorem left_frame (t : Nat) : carriageLeft e c h t = { carriageLeft e c h t with
    carriages := (h.setCarriage t none).carriages, matrix := (releaseAny t h).matrix, waiting := h.waiting
    monitors := (h.setMonitor t Monitor.cleared).monitors } := by
  rw [(serviceKeeps_left e c h t).frame, detach_frame, releaseAny_settled, settleOutcome_frame]
  rfl

theorem left_waitingList (u : Nat) : (carriageLeft e c h t).waitingList u = h.waitingList u := by
  rw [left_frame]
  rfl

theorem left_carriage (lt : t < 12) : (carriageLeft e c h t).carriage t = none := by
  rw [left_frame]
  exact carriage_setCarriage_same h t none lt

theorem left_carriage_ne {u : Nat} (ne : u ≠ t) : (carriageLeft e c h t).carriage u = h.carriage u := by
  rw [left_frame]
  exact carriage_setCarriage_ne h t u none ne

theorem left_monitor (lt : t < 12) : (carriageLeft e c h t).monitor t = (h.monitor t).cleared := by
  rw [left_frame]
  exact monitor_setMonitor_same h t Monitor.cleared lt

theorem left_claim (a : Nat) : (carriageLeft e c h t).claim a = (releaseAny t h).claim a := by
  rw [left_frame]
  rfl

theorem left_antenna (a : Nat) : (carriageLeft e c h t).antenna a = (releaseAny t h).antenna a := by
  rw [left_frame]
  rfl

theorem left_route (lt : t < 12) (claims : (claimOf h t).isSome = true) : (carriageLeft e c h t).route t = none := by
  obtain ⟨a, held⟩ := Option.isSome_iff_exists.mp claims
  have released : releaseAny t h = releaseClaim t a h := by
    unfold releaseAny
    rw [held]
  rw [left_frame, released]
  exact releaseClaim_route h a lt

theorem left_tx (lt : t < 12) : (carriageLeft e c h t).tx t =
    { (withdrawTune e t h).tx t with
      state := if (h.tx t).state = .held ∨ (h.tx t).state = .console then (h.tx t).state else .idle } := by
  have txs : (carriageLeft e c h t).tx t = (detach e t (settleOutcome e c.booking c.outcome h)).tx t := by
    rw [(serviceKeeps_left e c h t).frame]
    rfl
  rw [txs, detach_tx e _ lt, withdrawTune_settled, Tx.stateUnserved, (withdrawTune_sameRf e t h).1]

theorem left_outcomes : OutcomesOf c.booking c.outcome (carriageLeft e c h t) := by
  refine (serviceKeeps_left e c h t).outcomes _ _ ?_
  unfold OutcomesOf
  rw [detach_frame]
  exact settleOutcome_outcomes e c.booking c.outcome h

theorem left_planning (k : EventKind) (is : k = .missed ∨ k = .cut) :
    read (carriageLeft e c h t).attention.planning k.bit =
      read (settleOutcome e c.booking c.outcome h).attention.planning k.bit := by
  rw [(serviceKeeps_left e c h t).planning k is, detach_frame]

theorem left_missed (missed : c.outcome = .missed) :
    read (carriageLeft e c h t).attention.planning EventKind.missed.bit = some c.booking := by
  rw [left_planning e c h .missed (.inl rfl), missed]
  exact settleOutcome_missed e c.booking h

theorem left_cut (cut : c.outcome = .cut) :
    read (carriageLeft e c h t).attention.planning EventKind.cut.bit = some c.booking := by
  rw [left_planning e c h .cut (.inr rfl), cut]
  exact settleOutcome_cut e c.booking h

theorem endCarriage_eq {c : Carriage} (lt : t < 12) (is : h.carriage t = some c) :
    endCarriage e t h = reachEntries e t (h.waitingList t) (carriageLeft e c h t) := by
  have reached : endCarriage e t h = reachWaiting e t (carriageLeft e c h t) := by
    simp only [endCarriage, is]
    rfl
  rw [reached, reachWaiting, left_carriage e c h lt, left_waitingList]
  rfl

end Left

/-! ## A tune withdrawn, and what leaves with a carriage (R77, R95, R104, R106, R144) -/

theorem withdrawTune_eq {e : Env} {t : Nat} {h : Hall} (lt : t < 12) : withdrawTune e t h =
    let kept := h.setTx t fun x =>
      { x with pendingTune := x.pendingTune.filter fun p => decide (p.requester ≠ .carriage) }
    match (h.tx t).tune with
    | none => kept
    | some u =>
      if u.requester ≠ some .carriage then kept
      else if u.ends ≠ none then kept.setTx t fun x => { x with tune := some { u with requester := none } }
      else takePendingTune e t (kept.setTx t fun x => { x with tune := none, tuned := u.origin }) := by
  have others : (fun p : PendingTune => p.requester != .carriage) = fun p => decide (p.requester ≠ .carriage) := by
    funext p
    cases p.requester <;> rfl
  have tune := congrArg Tx.tune (tx_setTx_same h t (fun x =>
    { x with pendingTune := x.pendingTune.filter fun p => decide (p.requester ≠ .carriage) }) lt)
  unfold withdrawTune
  rw [others]
  dsimp only at tune ⊢
  rw [tune]
  cases (h.tx t).tune with
  | none => rfl
  | some u =>
    dsimp only
    rw [ite_not]
    exact if_congr Iff.rfl (if_congr Option.isSome_iff_ne_none rfl rfl) rfl

theorem detach_eq (e : Env) (t : Nat) (h : Hall) :
    let free := withdrawTune e t
      (match (List.range 25).find? fun a => h.claim a == some t with
       | some a => releaseClaim t a h
       | none => h)
    let gone := { free.setCarriage t none with keyAgain := free.keyAgain.filter fun u => u != t }
    let idle := gone.setTx t fun x =>
      { x with state := if x.state = .held ∨ x.state = .console then x.state else .idle }
    detach e t h = idle.setMonitor t fun m =>
      { m with tripCount := 0, tripRun := 0, warnRun := 0, recycle := none, cleanRun := none, window := [], tripAntenna := none } :=
  rfl

/-! ## What brings a carriage to its end (R69, R122, R128) -/

section Ending

variable {e : Env} {t : Nat} {c : Carriage} {h : Hall} (is : h.carriage t = some c)

include is

theorem endWith_eq (o : RunOutcome) : endWith e t o h = endCarriage e t (h.setCarriage t (some { c with outcome := o })) := by
  rw [endWith, Hall.mapCarriage, is]
  rfl

theorem endingForSent_eq (o : RunOutcome) : endingForSent e t o h =
    let ending := h.setCarriage t (some { c with phase := .ending, outcome := o })
    if (h.tx t).rfOn ≠ none then rfOff e t ending
    else if e.rfPresent t = false then endCarriage e t ending
    else if (h.tx t).rfDown ≠ none then ending
    else rfOff e t ending := by
  have ending : h.mapCarriage t (fun c => { c with phase := .ending, outcome := o }) =
      h.setCarriage t (some { c with phase := .ending, outcome := o }) := by
    rw [Hall.mapCarriage, is]
    rfl
  unfold endingForSent
  rw [ending]
  exact if_congr Option.isSome_iff_ne_none rfl
    (if_congr (by rw [Bool.not_eq_true']) rfl (if_congr Option.isSome_iff_ne_none rfl rfl))

theorem takeReport_cut : takeReport e (.cut t) h = if c.phase = .ending then h else endingForSent e t .cut h := by
  simp only [takeReport, is]

theorem takeReport_enableLost : takeReport e (.enableLost t) h =
    if c.phase = .keying ∨ c.phase = .onAir then endingForSent e t c.lost h else h := by
  have live : c.phase.live = true ↔ c.phase = .keying ∨ c.phase = .onAir := by
    cases c.phase <;> simp [Phase.live]
  simp only [takeReport, is]
  exact if_congr live rfl rfl

theorem takeReport_held : takeReport e (.held t) h =
    if c.phase = .ending then endCarriage e t h else endWith e t c.lost h := by
  simp only [takeReport, onHeld, is]

end Ending

/-- A report that finds no carriage does nothing (R128). -/
theorem takeReport_none {e : Env} {t : Nat} {h : Hall} (no : h.carriage t = none) (a f : Nat) (x : Setting)
    (why : RouteFailure) (who : Requester) :
    ∀ r ∈ ([.rfOff t, .rfUp t, .interlock t who, .tuneDone t f, .routeDone t a, .routeFailed t a why,
      .settingDone t a x, .settingFailed t a, .rowBlocked t, .columnBlocked t a, .cut t, .enableLost t] : List Report),
      takeReport e r h = h := by
  simp [takeReport, onRfOff, onRfUp, onInterlock, onWorkDone, onWorkFailed, no]

/-! ## The waiting list reached (R113) -/

theorem reachEntry_eq {e : Env} {t : Nat} {w : Waiting} {b : Booking} {h : Hall} (booked : h.booking w.booking = some b) :
    let tried := tryOpen e t b.fields w h
    let stop := tried.lookahead.cues.find? fun c => c.booking == w.booking && c.day == w.day && c.kind == .stop
    reachEntry e t w h =
      if b.fields.transmitter ≠ t ∨ carriesDay h.calendar.entries b.fields w.day = false ∨
          endOn b.fields w.day ≤ e.now then settleOutcome e w.booking .missed h
      else if (tried.carriage t).isSome = true ∧ stop.any (·.due != endOn b.fields w.day) = true then
        moveStop e t w.booking w.day (endOn b.fields w.day) tried
      else tried := by
  simp only [reachEntry, booked]
  refine if_congr ?_ rfl (if_congr (by rw [Bool.and_eq_true]; exact Iff.rfl) rfl rfl)
  rw [Bool.or_eq_true, Bool.or_eq_true, decide_eq_true_eq, decide_eq_true_eq, Bool.not_eq_true', or_assoc]

/-- Settles O53: a carriage's end is its outcome settled, its release and the table's service, and then the waiting list. -/
theorem carriageEndReleasesEverything : Obligations.CarriageEndReleasesEverything := by
  unfold Obligations.CarriageEndReleasesEverything
  refine ⟨fun e t c h lt is => ?ends, fun e t h => withdrawTune_eq, fun e t h _ => detach_eq e t h, fun t a h => rfl,
    fun e t c o h is => ⟨endWith_eq is o, endingForSent_eq is o, takeReport_cut is, takeReport_enableLost is,
      takeReport_held is⟩,
    fun e t a f x why who h no => ⟨takeReport_none no a f x why who, by simp only [takeReport, onHeld, no]⟩,
    fun e t w rest h => ⟨rfl, rfl⟩, fun e t w b h => reachEntry_eq⟩
  case ends =>
    have tx := left_tx e c h lt
    have monitor := left_monitor e c h lt
    refine ⟨endCarriage_eq e h lt is, left_carriage e c h lt, fun u => left_carriage_ne e c h, left_waitingList e c h t,
      fun one => ?_, left_route e c h lt, fun one a column claimed => ?_, tx, congrArg Tx.state tx,
      congrArg Monitor.tripCount monitor, congrArg Monitor.window monitor, congrArg Monitor.recycle monitor,
      left_outcomes e c h, left_missed e c h, left_cut e c h⟩
    · refine claimOf_eq_none.mpr fun a column claimed => releaseAny_claim one column ?_
      exact (left_claim e c h a).symm.trans claimed
    · obtain ⟨free, settled⟩ := releaseAny_freed one column claimed
      exact ⟨(left_claim e c h a).trans free, (congrArg Antenna.wanted (left_antenna e c h a)).trans settled⟩

end Sys2Proof.Machine
end


section
/-! CONFIGURE HALL, TRANSMITTER and ANTENNA (R81, R93, R133, R170, R171, R173): O55. -/

namespace Sys2Proof.Machine

/-! ## Records in range (R81, R93, R170) -/

theorem isFrequency_iff (f : Nat) : isFrequency f = true ↔ 2300 ≤ f ∧ f ≤ 26100 ∧ 5 ∣ f := by
  simp [isFrequency, and_assoc, Nat.dvd_iff_mod_eq_zero]

theorem isPower_iff (p : Nat) : isPower p = true ↔ 10 ≤ p ∧ p ≤ 600 := by simp [isPower]

theorem hallRecordOk_iff (r : HallRecord) : hallRecordOk r = true ↔
    r.nearlyFull ≤ 256 ∧ (5 ≤ r.guard ∧ r.guard ≤ 100 ∧ 5 ∣ r.guard) ∧ (15 ≤ r.horizon ∧ r.horizon ≤ 360) ∧
    r.margin ≤ 60 ∧ (2 ≤ r.travel ∧ r.travel ≤ 20) ∧ (5 ≤ r.tuneGrace ∧ r.tuneGrace ≤ 120) ∧
    (16 ≤ r.floor ∧ r.floor ≤ 255) ∧ (12 ≤ r.tripVswr ∧ r.tripVswr ≤ 30) ∧
    (11 ≤ r.warnVswr ∧ r.warnVswr < r.tripVswr) ∧ (2 ≤ r.recycleDelay ∧ r.recycleDelay ≤ 60) ∧
    r.retryLimit ≤ 5 ∧ 1 ≤ r.cleanRun ∧ r.cleanRun ≤ 30 := by
  simp only [hallRecordOk, Bool.and_eq_true, decide_eq_true_eq, beq_iff_eq, and_assoc, Nat.dvd_iff_mod_eq_zero]

theorem txConfigOk_iff (c : TxConfig) : txConfigOk c = true ↔
    (2300 ≤ c.minFreq ∧ c.minFreq ≤ 26100 ∧ 5 ∣ c.minFreq) ∧ (2300 ≤ c.maxFreq ∧ c.maxFreq ≤ 26100 ∧ 5 ∣ c.maxFreq) ∧
    c.minFreq < c.maxFreq ∧ (10 ≤ c.rated ∧ c.rated ≤ 600) ∧ (5 ≤ c.tuneBase ∧ c.tuneBase ≤ 120) ∧
    c.tuneRate ≤ 600 ∧ 1 ≤ c.rfDown ∧ c.rfDown ≤ 30 := by
  simp only [txConfigOk, Bool.and_eq_true, isFrequency_iff, isPower_iff, decide_eq_true_eq, and_assoc]

/-- Windows each low below its high ascend pairwise as soon as each is above the one before it. -/
theorem windowsAscend_iff {l : List Band} (each : ∀ w ∈ l, w.low < w.high) :
    windowsAscend l = true ↔ l.Pairwise fun x y => x.high < y.low := by
  induction l with
  | nil => simp [windowsAscend]
  | cons a l ih =>
    cases l with
    | nil => simp [windowsAscend]
    | cons b l =>
      have rest := ih fun w mem => each w (List.mem_cons_of_mem a mem)
      rw [windowsAscend, Bool.and_eq_true, decide_eq_true_eq, rest, List.pairwise_cons (l := b :: l)]
      refine and_congr_left fun ascend => ⟨fun below w mem => ?_, fun all => all b List.mem_cons_self⟩
      rcases List.mem_cons.mp mem with rfl | later
      · exact below
      · have wide := each b (List.mem_cons_of_mem a List.mem_cons_self)
        have above := (List.pairwise_cons.mp ascend).1 w later
        omega

theorem antConfigOk_iff (c : AntConfig) : antConfigOk c = true ↔
    c.bearing ≤ 359 ∧ (10 ≤ c.rating ∧ c.rating ≤ 600) ∧ (1 ≤ c.windows.length ∧ c.windows.length ≤ 4) ∧
    (∀ w ∈ c.windows, (2300 ≤ w.low ∧ w.low ≤ 26100 ∧ 5 ∣ w.low) ∧ (2300 ≤ w.high ∧ w.high ≤ 26100 ∧ 5 ∣ w.high) ∧
      w.low < w.high) ∧
    (c.windows.Pairwise fun x y => x.high < y.low) ∧ c.maxSlew ≤ 6 ∧ 1 ≤ c.settingTime ∧ c.settingTime ≤ 60 := by
  simp only [antConfigOk, Bool.and_eq_true, List.all_eq_true, isFrequency_iff, isPower_iff, decide_eq_true_eq, and_assoc]
  refine and_congr_right fun _ => and_congr_right fun _ => and_congr_right fun _ => and_congr_right fun _ =>
    and_congr_right fun _ => and_congr_right fun windows => and_congr_left fun _ => windowsAscend_iff fun w mem => ?_
  obtain ⟨-, -, -, -, -, -, wide⟩ := windows w mem
  exact wide

/-! ## Bookings that fit (R173) -/

theorem fitsTx_iff (e : Env) (k : Nat) (b : Offered) : fitsTx e k b = true ↔
    (b.transmitter = k → (e.txConfig k).present = true ∧ (e.txConfig k).minFreq ≤ b.frequency ∧
      b.frequency ≤ (e.txConfig k).maxFreq ∧ b.power ≤ (e.txConfig k).rated) := by
  simp only [fitsTx, Bool.or_eq_true, bne_iff_ne, Bool.and_eq_true, decide_eq_true_eq, and_assoc, imp_iff_not_or]

theorem admits_iff (c : AntConfig) (s : Setting) :
    admits c s = true ↔ s.slew.natAbs ≤ c.maxSlew ∧ (s.dir = .reverse → c.reversible = true) := by
  simp only [admits, Bool.and_eq_true, decide_eq_true_eq]
  cases s.dir <;> simp

theorem fitsAnt_iff (e : Env) (k : Nat) (b : Offered) : fitsAnt e k b = true ↔
    let carries := (e.antConfig k).present = true ∧
      (∃ w ∈ (e.antConfig k).windows, w.low ≤ b.frequency ∧ b.frequency ≤ w.high) ∧ b.power ≤ (e.antConfig k).rating
    (b.antenna = k → carries ∧ b.setting.slew.natAbs ≤ (e.antConfig k).maxSlew ∧
      (b.setting.dir = .reverse → (e.antConfig k).reversible = true)) ∧
    (b.alternate = some k → carries) := by
  simp only [fitsAnt, Bool.and_eq_true, Bool.or_eq_true, bne_iff_ne, ne_eq, decide_eq_true_eq, inBand_iff, admits_iff,
    and_assoc, ← imp_iff_not_or]

theorem lowestUnfit_none (h : Hall) (fits : Offered → Bool) :
    lowestUnfit h fits = none ↔ ∀ b ∈ h.table.records, fits b.fields = true := by
  simp [lowestUnfit]

section Lowest

variable {h : Hall} {fits : Offered → Bool} {n : Nat}
  (ascend : (h.table.records.map (·.fields.number)).Pairwise (· < ·))

include ascend

/-- The records stand in ascending number, so the first that does not fit is the lowest. -/
theorem lowestUnfit_lowest (lowest : lowestUnfit h fits = some n) :
    (∃ b ∈ h.table.records, b.fields.number = n ∧ fits b.fields = false) ∧
    ∀ b ∈ h.table.records, fits b.fields = false → n ≤ b.fields.number := by
  obtain ⟨b, found, rfl⟩ := Option.map_eq_some_iff.mp lowest
  obtain ⟨unfit, before, after, split, fit⟩ := List.find?_eq_some_iff_append.mp found
  rw [split, List.map_append, List.map_cons, List.pairwise_append, List.pairwise_cons] at ascend
  obtain ⟨-, ⟨above, -⟩, -⟩ := ascend
  rw [split]
  refine ⟨⟨b, by simp, rfl, by simpa using unfit⟩, fun c mem bad => ?_⟩
  rcases List.mem_append.mp mem with early | late
  · exact absurd (fit c early) (by simp [bad])
  · rcases List.mem_cons.mp late with rfl | later
    · exact Nat.le_refl _
    · exact Nat.le_of_lt (above _ (List.mem_map_of_mem later))

theorem lowestUnfit_some : lowestUnfit h fits = some n ↔
    (∃ b ∈ h.table.records, b.fields.number = n ∧ fits b.fields = false) ∧
    ∀ b ∈ h.table.records, fits b.fields = false → n ≤ b.fields.number := by
  refine ⟨lowestUnfit_lowest ascend, fun ⟨⟨b, mem, is, bad⟩, least⟩ => ?_⟩
  cases first : lowestUnfit h fits with
  | none => exact absurd ((lowestUnfit_none h fits).mp first b mem) (by simp [bad])
  | some m =>
    obtain ⟨⟨c, mem', is', bad'⟩, least'⟩ := lowestUnfit_lowest ascend first
    exact congrArg some (Nat.le_antisymm (is ▸ least' b mem bad) (is' ▸ least c mem' bad'))

end Lowest

/-! ## The commands (R93, R171, R173) -/

/-- The outcome of a frame that is taken, read off what hall control made of the command. -/
def ruled (s : State) (link : Link) (code : Nat) (tag : Byte) (v : Verdict) : Host.Outcome State Fault Refusal :=
  .next ((match v.change with
    | none => { s with env := v.env }
    | some f => State.act { s with env := v.env } f).reply link code tag (some v.answer))

section Ruled

variable {s : State} {link : Link} {code : Nat} {tag : Byte}

theorem frameOr_ruled {α : Type} {a : α} {bad : State → Answer} {run : α → Env → Hall → Verdict}
    (yes : s.takes link = true) :
    .next (frameOr bad link code tag (.fields a) (governing run) s) = ruled s link code tag (run a s.env s.hall) := by
  rw [frameOr_fields yes]
  cases change : (run a s.env s.hall).change <;> simp only [governing, ruled, change]

theorem ruled_unchanged (r : ResultCode) :
    ruled s link code tag (.unchanged s.env r) = answers s link code tag r := rfl

theorem ruled_ite (p : Prop) [Decidable p] (x y : Verdict) : ruled s link code tag (if p then x else y) =
    if p then ruled s link code tag x else ruled s link code tag y := apply_ite _ _ _ _

end Ruled

section Commands

variable {s : State} {tag : Byte} (yes : s.takes .planning = true)

theorem configureHallRun_eq (r : HallRecord) (e : Env) (h : Hall) : configureHallRun r e h =
    if hallRecordOk r = false then refuseHall e .format
    else if e.mode ≠ .configuring then refuseHall e .mode
    else if r.guard ≠ e.config.hall.guard ∧ h.table.records ≠ [] then refuseHall e .inUse
    else takeHall r e := by
  have level : (decide (r.guard ≠ e.config.hall.guard) && !h.table.records.isEmpty) = true ↔
      r.guard ≠ e.config.hall.guard ∧ h.table.records ≠ [] := by
    rw [Bool.and_eq_true, decide_eq_true_eq, Bool.not_eq_true', List.isEmpty_eq_false_iff]
  unfold configureHallRun configureHallRefusal
  rw [apply_ite (Option.elim · _ _), apply_ite (Option.elim · _ _), apply_ite (Option.elim · _ _)]
  exact if_congr (by rw [Bool.not_eq_true']) rfl (if_congr Iff.rfl rfl (if_congr level rfl rfl))

/-- An offered hall record that is taken, by whether its level is new (R5, R171). -/
theorem ruled_takeHall (r : HallRecord) : ruled s .planning 15 tag (takeHall r s.env) =
    .next (State.reply
      (if r.nearlyFull = s.env.config.hall.nearlyFull then { s with env := withHall s.env r }
       else State.act { s with env := withHall s.env r } (nearlyFullTest (withHall s.env r))) .planning 15 tag
      (some { result := .done, body := .hall r s.env.mode })) := by
  unfold ruled takeHall
  by_cases level : r.nearlyFull = s.env.config.hall.nearlyFull
  · simp only [if_pos level]
    rfl
  · simp only [if_neg level]
    rfl

include yes

theorem configureHall_ruled (r : HallRecord) : exec (.configureHall tag (.fields r)) s =
    if hallRecordOk r = false then ruled s .planning 15 tag (refuseHall s.env .format)
    else if s.env.mode ≠ .configuring then ruled s .planning 15 tag (refuseHall s.env .mode)
    else if r.guard ≠ s.env.config.hall.guard ∧ s.hall.table.records ≠ [] then
      ruled s .planning 15 tag (refuseHall s.env .inUse)
    else ruled s .planning 15 tag (takeHall r s.env) := by
  refine (frameOr_ruled yes).trans ?_
  rw [configureHallRun_eq, ruled_ite, ruled_ite, ruled_ite]

theorem configureTransmitter_ruled (w : TxWrite) : exec (.configureTransmitter tag (.fields w)) s =
    if 11 < w.transmitter ∨ txConfigOk w.config = false then answers s .planning 18 tag .format
    else if s.env.mode ≠ .configuring then answers s .planning 18 tag .mode
    else match lowestUnfit s.hall (fitsTx (withTx s.env w) w.transmitter) with
      | some n => .next (s.reply .planning 18 tag (some { result := .inUse, body := .booking n false }))
      | none => takes { s with env := freshPair s.env (withTx s.env w) w.transmitter } .planning 18 tag
          (startOrDiscardTx s.env (withTx s.env w) w.transmitter) := by
  refine (frameOr_ruled yes).trans ?_
  unfold configureTransmitterRun
  rw [ruled_ite, ruled_ite]
  refine if_congr ?_ rfl (if_congr Iff.rfl rfl ?_)
  · rw [Bool.or_eq_true, decide_eq_true_eq, Bool.not_eq_true']
    exact Iff.rfl
  · cases lowestUnfit s.hall (fitsTx (withTx s.env w) w.transmitter) <;> rfl

theorem configureAntenna_ruled (w : AntWrite) : exec (.configureAntenna tag (.fields w)) s =
    if 24 < w.antenna ∨ antConfigOk w.config = false then answers s .planning 19 tag .format
    else if s.env.mode ≠ .configuring then answers s .planning 19 tag .mode
    else match lowestUnfit s.hall (fitsAnt (withAnt s.env w) w.antenna) with
      | some n => .next (s.reply .planning 19 tag (some { result := .inUse, body := .booking n false }))
      | none => takes { s with env := withAnt s.env w } .planning 19 tag fun h => h := by
  refine (frameOr_ruled yes).trans ?_
  unfold configureAntennaRun
  rw [ruled_ite, ruled_ite]
  refine if_congr ?_ rfl (if_congr Iff.rfl rfl ?_)
  · rw [Bool.or_eq_true, decide_eq_true_eq, Bool.not_eq_true']
    exact Iff.rfl
  · cases lowestUnfit s.hall (fitsAnt (withAnt s.env w) w.antenna) <;> rfl

end Commands

/-! ## The records written (R81, R93) -/

theorem txConfig_withTx (e : Env) (w : TxWrite) (lt : w.transmitter < 12) :
    (withTx e w).txConfig w.transmitter = w.config := read_write_same e.config.txs _ _ lt

theorem txConfig_withTx_ne (e : Env) (w : TxWrite) {u : Nat} (ne : u ≠ w.transmitter) :
    (withTx e w).txConfig u = e.txConfig u := read_write_ne e.config.txs _ u _ ne

theorem antConfig_withAnt (e : Env) (w : AntWrite) (lt : w.antenna < 25) :
    (withAnt e w).antConfig w.antenna = antennaTaken w := by
  simp [Env.antConfig, withAnt, write, lt]

theorem antConfig_withAnt_ne (e : Env) (w : AntWrite) {a : Nat} (ne : a ≠ w.antenna) :
    (withAnt e w).antConfig a = e.antConfig a := by
  simp [Env.antConfig, withAnt, write, ne.symm]

/-! ## A transmitter made present or absent (R93, R133) -/

theorem presenceChanged_iff (old new : Env) (t : Nat) :
    presenceChanged old new t = true ↔ (old.txConfig t).present ≠ (new.txConfig t).present := bne_iff_ne

section Kept

variable {old new : Env} {t : Nat} (kept : (old.txConfig t).present = (new.txConfig t).present) (h : Hall)

include kept

theorem freshPair_kept : freshPair old new t = new :=
  if_neg fun changed => (presenceChanged_iff old new t).mp changed kept

theorem startOrDiscardTx_kept : startOrDiscardTx old new t h = h := by
  have same : presenceChanged old new t = false := by
    simp [presenceChanged, kept]
  rw [startOrDiscardTx, same]
  rfl

end Kept

section Changed

variable {old new : Env} {t : Nat} (changed : (old.txConfig t).present ≠ (new.txConfig t).present)

include changed

theorem freshPair_pairs : (freshPair old new t).inputs.pairs = write new.inputs.pairs t (0, 0) := by
  rw [freshPair, if_pos ((presenceChanged_iff old new t).mpr changed)]

theorem startOrDiscardTx_present (present : (new.txConfig t).present = true) (h : Hall) : startOrDiscardTx old new t h =
    if new.rfPresent t = true then rfOff new t (send (.statusRequest t) (freshTx t h))
    else send (.statusRequest t) (freshTx t h) := by
  simp only [startOrDiscardTx, (presenceChanged_iff old new t).mpr changed, present, Bool.not_true, Bool.false_eq_true,
    if_false, if_true]

theorem startOrDiscardTx_absent (absent : (new.txConfig t).present = false) (h : Hall) :
    startOrDiscardTx old new t h = withdrawRoute t (freshTx t h) := by
  simp only [startOrDiscardTx, (presenceChanged_iff old new t).mpr changed, absent, Bool.not_true, Bool.false_eq_true,
    if_false]

end Changed

section Fresh

variable (h : Hall) (t : Nat)

theorem freshTx_tx (lt : t < 12) : (freshTx t h).tx t = Tx.start := tx_setTx_same h t _ lt

theorem freshTx_monitor (lt : t < 12) : (freshTx t h).monitor t = Monitor.start := monitor_setMonitor_same _ t _ lt

theorem freshTx_others {u : Nat} (ne : u ≠ t) : (freshTx t h).tx u = h.tx u ∧ (freshTx t h).monitor u = h.monitor u :=
  ⟨tx_setTx_ne h t u _ ne, monitor_setMonitor_ne _ t u _ ne⟩

end Fresh

/-- The live part of a transmitter whose presence has changed: its first values, a status request for one made present,
and RF OFF with its watch where it has reported RF present. -/
theorem startOrDiscardTx_changed {old new : Env} {t : Nat} {h : Hall} (lt : t < 12)
    (changed : (old.txConfig t).present ≠ (new.txConfig t).present) :
    let left := startOrDiscardTx old new t h
    left.tx t = { Tx.start with
      rfDown := if (new.txConfig t).present = true ∧ new.rfPresent t = true then
        some (new.timebase + ((new.txConfig t).rfDown + 5) * 1000) else none } ∧
    left.monitor t = Monitor.start ∧ (∀ u, u ≠ t → left.tx u = h.tx u ∧ left.monitor u = h.monitor u) ∧
    left.orders = h.orders ++ (if (new.txConfig t).present = true then
      .statusRequest t :: (if new.rfPresent t = true then [.rfOff t] else []) else []) := by
  have fresh := freshTx_tx h t lt
  have monitor := freshTx_monitor h t lt
  dsimp only
  cases present : (new.txConfig t).present with
  | false =>
    rw [startOrDiscardTx_absent changed present]
    refine ⟨?_, monitor, fun u => freshTx_others h t, ?_⟩
    · exact fresh.trans (by simp [Tx.start])
    · exact (List.append_nil _).symm
  | true =>
    rw [startOrDiscardTx_present changed present]
    cases live : new.rfPresent t with
    | false =>
      refine ⟨?_, monitor, fun u => freshTx_others h t, rfl⟩
      exact fresh.trans (by simp [Tx.start])
    | true =>
      have sent : (send (.statusRequest t) (freshTx t h)).tx t = Tx.start := fresh
      simp only [if_true]
      refine ⟨?_, (rfOff_monitor ..).trans monitor, fun u ne => ⟨?_, ?_⟩, ?_⟩
      · rw [rfOff_tx _ lt, sent]
        simp [present, live, Tx.start]
      · exact (rfOff_tx_ne new t u _ ne).trans (freshTx_others h t ne).1
      · exact (rfOff_monitor ..).trans (freshTx_others h t ne).2
      · rw [rfOff_orders, present]
        simp [freshTx]

/-- Settles O55: ranges and fits read as stated, each command by its checks, and a live part by its change of presence. -/
theorem configurationWrites : Obligations.ConfigurationWrites := by
  unfold Obligations.ConfigurationWrites
  refine ⟨⟨hallRecordOk_iff, txConfigOk_iff, antConfigOk_iff⟩, fun e k b => ⟨fitsTx_iff e k b, fitsAnt_iff e k b⟩,
    fun h fits n ascend => ⟨lowestUnfit_some ascend, lowestUnfit_none h fits⟩, fun s tag yes =>
    ⟨fun r => ?hall, configureTransmitter_ruled yes, configureAntenna_ruled yes,
      fun w lt => ⟨txConfig_withTx s.env w lt, fun u => txConfig_withTx_ne s.env w⟩,
      fun w h lt => ⟨fun same => ?kept, fun changed => ?fresh⟩,
      fun w lt => ⟨fun real => ?antenna, fun load => ?testLoad, fun a => antConfig_withAnt_ne s.env w⟩⟩⟩
  case hall =>
    rw [configureHall_ruled yes, ruled_takeHall]
    rfl
  case kept =>
    rw [← txConfig_withTx s.env w lt] at same
    exact ⟨freshPair_kept same, startOrDiscardTx_kept same h⟩
  case fresh =>
    have config := txConfig_withTx s.env w lt
    rw [← config] at changed
    obtain ⟨tx, monitor, others, orders⟩ := startOrDiscardTx_changed (h := h) lt changed
    rw [config] at tx orders
    rw [freshPair_pairs changed]
    refine ⟨read_write_same _ _ _ lt, fun u ne => read_write_ne _ _ u _ ne, monitor, ?_⟩
    rw [tx]
    exact ⟨rfl, rfl, rfl, rfl, rfl, rfl, others, orders, rfl⟩
  case antenna =>
    rw [antConfig_withAnt s.env w lt]
    exact if_neg (Nat.ne_of_lt real)
  case testLoad =>
    rw [← load, antConfig_withAnt s.env w lt]
    exact if_pos load

end Sys2Proof.Machine
end


section
/-! The part right after a cold start (R178): O60. -/

namespace Sys2Proof.Machine

theorem reset_inRange : InRange State.reset :=
  (inRange_iff State.reset).mpr ⟨coldClock_inRange 0, startLinks_inRange 0 (by decide), nofun⟩

/-- Settles O60: a cold start asserts no RF enable, holds no record and no season, and reads a hall address in range. -/
theorem resetMeetsTheInvariants : Obligations.ResetMeetsTheInvariants := by
  unfold Obligations.ResetMeetsTheInvariants
  exact ⟨rfSafe_of_dark fun t _ => cold_dark 0 t, (collectionsOk_iff _).mpr (cold_ok 0), reset_inRange⟩

end Sys2Proof.Machine
end


section
/-! The hall modes: COMMISSION, RECONFIGURE, HALL STOP, HALL RESUME, and the resume list (R167 to R169, R172, R174, R175): O56. -/

namespace Sys2Proof.Machine

/-! ## The commands (R167, R169, R172, R174, R175) -/

/-- Checks 3 to 6 of Table 5, the first that fails giving the code (R6, R174). -/
theorem unfit_eq (e : Env) (b : Offered) : unfit e b =
    (([(!rangeOk e b, .range), (!bandOk e b, .band), (!powerOk e b, .power), (!settingOk e b, .setting)] :
      List (Bool × ResultCode)).find? (·.1)).map (·.2) := by
  simp only [firstFailure_cons, List.find?_nil, Option.map_none]
  rfl

section Commands

variable {s : State} {tag : Byte}

theorem nonePresent_iff (l : List Nat) (present : Nat → Bool) :
    (!l.any present) = true ↔ ∀ i ∈ l, present i = false := by
  simp only [Bool.not_eq_true', List.any_eq_false, Bool.not_eq_true]

/-- What COMMISSION comes to once its checks pass (R174). -/
def commissioned (e : Env) : Verdict where
  answer := Answer.code .done
  env := { e with mode := .running }
  change := some fun h => resumeScan { e with mode := .running } (rescan { e with mode := .running } h)

/-- COMMISSION refused with an answer (R174). -/
def uncommissioned (e : Env) (a : Answer) : Verdict := { answer := a, env := e, change := none }

theorem commissionRun_eq (e : Env) (h : Hall) : commissionRun () e h =
    if e.mode ≠ .configuring then .unchanged e .mode
    else if e.clock.status = .unset then .unchanged e .unknown
    else if (∀ t ∈ List.range 12, (e.txConfig t).present = false) ∨ (∀ a ∈ List.range 25, (e.antConfig a).present = false)
    then .unchanged e .range
    else (firstUnfit e h).elim (commissioned e) fun r => uncommissioned e { result := r.1, body := .booking r.2 false } := by
  have judged : commissionRun () e h = (commissionRefusal e h).elim (commissioned e) (uncommissioned e) := by
    unfold commissionRun
    cases commissionRefusal e h <;> rfl
  have absent : (!(allRows.any fun t => (e.txConfig t).present) || !(allCols.any fun a => (e.antConfig a).present)) = true ↔
      (∀ t ∈ List.range 12, (e.txConfig t).present = false) ∨ (∀ a ∈ List.range 25, (e.antConfig a).present = false) := by
    rw [Bool.or_eq_true, nonePresent_iff, nonePresent_iff]
    rfl
  rw [judged, commissionRefusal, apply_ite (Option.elim · _ _), apply_ite (Option.elim · _ _), apply_ite (Option.elim · _ _)]
  refine if_congr Iff.rfl rfl (if_congr (unset_iff e) rfl (if_congr absent rfl ?_))
  cases firstUnfit e h <;> rfl

theorem commission_ruled (yes : s.takes .planning = true) : exec (.commission tag (.fields ())) s =
    if s.env.mode ≠ .configuring then answers s .planning 16 tag .mode
    else if s.env.clock.status = .unset then answers s .planning 16 tag .unknown
    else if (∀ t ∈ List.range 12, (s.env.txConfig t).present = false) ∨
        (∀ a ∈ List.range 25, (s.env.antConfig a).present = false) then answers s .planning 16 tag .range
    else match firstUnfit s.env s.hall with
      | some (code, n) => .next (s.reply .planning 16 tag (some { result := code, body := .booking n false }))
      | none => takes { s with env := { s.env with mode := .running } } .planning 16 tag fun h =>
          resumeScan { s.env with mode := .running } (rescan { s.env with mode := .running } h) := by
  refine (frameOr_ruled yes).trans ?_
  rw [commissionRun_eq, ruled_ite, ruled_ite, ruled_ite]
  refine if_congr Iff.rfl rfl (if_congr Iff.rfl rfl (if_congr Iff.rfl rfl ?_))
  cases firstUnfit s.env s.hall <;> rfl

theorem anyCarriage_iff (h : Hall) : (allRows.any fun t => (h.carriage t).isSome) = true ↔
    ∃ t ∈ List.range 12, h.carriage t ≠ none := by
  simp only [List.any_eq_true, Option.isSome_iff_ne_none]
  rfl

theorem reconfigure_ruled (yes : s.takes .planning = true) : exec (.reconfigure tag (.fields ())) s =
    match s.env.mode with
    | .running => answers s .planning 17 tag .mode
    | .configuring => answers s .planning 17 tag .done
    | .stopped =>
      if ∃ t ∈ List.range 12, s.hall.carriage t ≠ none then answers s .planning 17 tag .busy
      else takes { s with env := { s.env with mode := .configuring } } .planning 17 tag emptyLists := by
  refine (frameOr_ruled yes).trans ?_
  unfold reconfigureRun
  cases s.env.mode with
  | running => rfl
  | configuring => rfl
  | stopped =>
    dsimp only
    rw [ruled_ite]
    exact if_congr (anyCarriage_iff s.hall) rfl rfl

theorem hallStop_ruled (yes : s.takes .console = true) : exec (.hallStop tag (.fields ())) s =
    match s.env.mode with
    | .configuring => answers s .console 36 tag .mode
    | .stopped => answers s .console 36 tag .done
    | .running => takes { s with env := { s.env with mode := .stopped } } .console 36 tag
        (stopHall { s.env with mode := .stopped }) := by
  refine (frameOr_ruled yes).trans ?_
  unfold hallStopRun
  cases s.env.mode <;> rfl

theorem hallResume_ruled (yes : s.takes .console = true) : exec (.hallResume tag (.fields ())) s =
    match s.env.mode with
    | .configuring => answers s .console 37 tag .mode
    | .running => answers s .console 37 tag .done
    | .stopped => takes { s with env := { s.env with mode := .running } } .console 37 tag
        (startRunning { s.env with mode := .running }) := by
  refine (frameOr_ruled yes).trans ?_
  unfold hallResumeRun
  cases s.env.mode <;> rfl

end Commands

/-! ## A carriage cut, and RF taken down (R97, R167, R168) -/

theorem addResume_eq (number day : Nat) (l : List Resume) : addResume number day l =
    if ∃ r ∈ l, r.booking = number ∧ r.day = day then l
    else l.filter (fun r => r.booking != number) ++ [{ booking := number, day := day, resumed := false }] := by
  refine if_congr ?_ rfl rfl
  simp only [List.any_eq_true, Bool.and_eq_true, beq_iff_eq]

/-- The occurrence cut stands in the resume list (R168). -/
theorem mem_addResume (number day : Nat) (l : List Resume) :
    ∃ r ∈ addResume number day l, r.booking = number ∧ r.day = day := by
  rw [addResume_eq]
  split
  · next listed => exact listed
  · exact ⟨_, List.mem_append_right _ List.mem_cons_self, rfl, rfl⟩

section Cut

variable {e : Env} {t : Nat} {c : Carriage} {h : Hall} (is : h.carriage t = some c)

include is

theorem stopOne_ending (ending : c.phase = .ending) : stopOne e t h = h := by
  simp only [stopOne, is, ending, if_true]

theorem stopOne_early (early : c.phase = .working ∨ c.phase = .ready) :
    stopOne e t h = endWith e t .cut { h with resume := addResume c.booking c.day h.resume } := by
  have notEnding : c.phase ≠ .ending := by rcases early with phase | phase <;> rw [phase] <;> decide
  simp only [stopOne, is, if_neg notEnding, if_pos early]

theorem stopOne_late (notEnding : c.phase ≠ .ending) (late : ¬ (c.phase = .working ∨ c.phase = .ready)) :
    stopOne e t h = enterEnding e t .cut { h with resume := addResume c.booking c.day h.resume } := by
  simp only [stopOne, is, if_neg notEnding, if_neg late]

/-- A carriage enters ENDING with its outcome, and its RF enable is withdrawn (R124). -/
theorem enterEnding_facts (o : RunOutcome) : (enterEnding e t o h).carriage t = some { c with phase := .ending, outcome := o } ∧
    ((enterEnding e t o h).tx t).rfEnable = false ∧ (enterEnding e t o h).resume = h.resume := by
  have row := carriage_some_lt is
  unfold enterEnding
  rw [rfOff_carriage, mapCarriage_same row is]
  refine ⟨rfl, rfOff_rfEnable e t _ row, ?_⟩
  rw [rfOff_frame]
  rfl

end Cut

theorem stopRf_eq (e : Env) (t : Nat) (h : Hall) : stopRf e t h =
    if (e.txConfig t).present = true ∧ (h.tx t).mode = .remote then rfOff e t h else h :=
  if_congr (by rw [Bool.and_eq_true, decide_eq_true_eq]) rfl rfl

theorem enforceOne_eq (e : Env) (t : Nat) (h : Hall) : enforceOne e t h =
    if (h.tx t).rfEnable = true ∧ mayRadiate e h t ((h.tx t).power.getD 0) = false then
      if (h.carriage t).isSome = true then raise (.enableLost t) (rfOff e t h) else rfOff e t h
    else h := by
  unfold enforceOne
  dsimp only
  rw [rfOff_carriage]
  exact if_congr (by rw [Bool.and_eq_true, Bool.not_eq_true']) rfl rfl

/-! ## The resume scan (R169) -/

theorem resumeOne_gone {e : Env} {r : Resume} {h : Hall} (gone : h.booking r.booking = none) : resumeOne e r h = h := by
  simp only [resumeOne, gone]

theorem resumeOne_booked {e : Env} {r : Resume} {h : Hall} {b : Booking} (booked : h.booking r.booking = some b) :
    resumeOne e r h =
      if r.resumed = true ∨ endOn b.fields r.day ≤ e.now then h
      else if (h.tx b.fields.transmitter).state = .held ∨ (h.tx b.fields.transmitter).mode = .console then
        { h with resume := h.resume.filter fun y => y.booking != r.booking }
      else readmit e r.booking r.day
        { h with resume := h.resume.map fun y => if y.booking = r.booking then { y with resumed := true } else y } := by
  simp only [resumeOne, booked, Bool.or_eq_true, decide_eq_true_eq, beq_iff_eq]

/-- Settles O56: each command by its checks and the mode, a carriage cut by its phase, and the resume scan entry by entry. -/
theorem hallModesAndStop : Obligations.HallModesAndStop := by
  unfold Obligations.HallModesAndStop
  refine ⟨unfit_eq, ⟨fun s tag yes => ⟨commission_ruled yes, reconfigure_ruled yes⟩, fun s tag yes =>
      ⟨hallStop_ruled yes, hallResume_ruled yes⟩⟩,
    fun e t c h row is => ⟨stopOne_ending is, fun notEnding notWorking notReady => ?cut, stopOne_early is⟩,
    fun e t h => ⟨stopRf_eq e t h, rfl, enforceOne_eq e t h⟩, addResume_eq, fun e h => rfl,
    fun e r h => ⟨resumeOne_gone, fun b => resumeOne_booked⟩⟩
  case cut =>
    rw [stopOne_late is notEnding fun early => early.elim notWorking notReady]
    obtain ⟨carried, dark, resume⟩ :=
      enterEnding_facts (e := e) (h := { h with resume := addResume c.booking c.day h.resume }) is .cut
    rw [resume]
    exact ⟨carried, dark, mem_addResume c.booking c.day h.resume⟩

end Sys2Proof.Machine
end


section
/-! Status reports, tune complete reports and the timers of a transmitter (R96, R98 to R102, R104 to R106, R108): O48. -/

namespace Sys2Proof.Machine

/-! ## Fields of a transmitter that a change leaves -/

/-- A field that a change of a record leaves is left of every transmitter's record. -/
theorem setTx_leaves {α : Type} (field : Tx → α) (h : Hall) (t u : Nat) (f : Tx → Tx) (leaves : ∀ x, field (f x) = field x) :
    field ((h.setTx t f).tx u) = field (h.tx u) := by
  by_cases same : u = t
  · subst same
    by_cases lt : u < Config.rows
    · rw [tx_setTx_same h u f lt, leaves]
    · rw [Hall.setTx, update, write_out _ _ _ (Nat.le_of_not_lt lt)]
  · rw [tx_setTx_ne h t u f same]

/-! ## A pending tune (R104, R105) -/

theorem tuneBarred_iff (h : Hall) (t : Nat) (who : Requester) : tuneBarred h t who = true ↔
    if who = .console then (h.tx t).state ≠ .console else (h.tx t).state = .held := by
  unfold tuneBarred
  split
  · exact bne_iff_ne
  · exact beq_iff_eq

theorem tuneRefusal_iff (e : Env) (h : Hall) (t f : Nat) : (tuneRefusal e h t f).isSome = true ↔
    f < (e.txConfig t).minFreq ∨ (e.txConfig t).maxFreq < f ∨ (h.tx t).rfEnable = true ∨ e.rfPresent t = true := by
  have range : (decide (f < (e.txConfig t).minFreq) || decide ((e.txConfig t).maxFreq < f)) = true ↔
      f < (e.txConfig t).minFreq ∨ (e.txConfig t).maxFreq < f := by
    rw [Bool.or_eq_true, decide_eq_true_eq, decide_eq_true_eq]
  rw [← or_assoc, ← rowLive_iff e h t]
  unfold tuneRefusal
  split
  · next out => exact iff_of_true rfl (.inl (range.mp out))
  · next within =>
    split
    · next live => exact iff_of_true rfl (.inr live)
    · next dark => exact iff_of_false Bool.false_ne_true (not_or.mpr ⟨fun out => within (range.mpr out), dark⟩)

theorem takePendingTune_none {e : Env} {t : Nat} {h : Hall} (none' : (h.tx t).pendingTune = none) :
    takePendingTune e t h = h := by
  simp only [takePendingTune, none']

/-- A pending tune is taken with the tests of a new request, and dropped when one fails (R104, R105; log 32). -/
theorem takePendingTune_some {e : Env} {t : Nat} {h : Hall} {p : PendingTune} (pending : (h.tx t).pendingTune = some p) :
    takePendingTune e t h =
      if (if p.requester = .console then (h.tx t).state ≠ .console else (h.tx t).state = .held) ∨
          p.frequency < (e.txConfig t).minFreq ∨ (e.txConfig t).maxFreq < p.frequency ∨
          (h.tx t).rfEnable = true ∨ e.rfPresent t = true then h.setTx t fun x => { x with pendingTune := none }
      else takeTune e t p.frequency p.requester (h.setTx t fun x => { x with pendingTune := none }) := by
  have state := setTx_leaves Tx.state h t t (fun x => { x with pendingTune := none }) fun _ => rfl
  have enable := setTx_leaves Tx.rfEnable h t t (fun x => { x with pendingTune := none }) fun _ => rfl
  simp only [takePendingTune, pending, Bool.or_eq_true, tuneBarred_iff, tuneRefusal_iff, state, enable]

theorem tuneReported_eq (e : Env) (t f : Nat) (h : Hall) : tuneReported e t f h =
    match (h.tx t).tune with
    | none => h
    | some u =>
      if u.frequency ≠ f then enterHeld e t .tune h
      else takePendingTune e t
        (tellTuned t f u.requester (h.setTx t fun x => { x with tuned := some f, tune := none })) := by
  unfold tuneReported
  cases (h.tx t).tune with
  | none => rfl
  | some u => exact (ite_not ..).symm

/-! ## Changes of the indications (R96, R98 to R102, R106) -/

theorem withIndications_same (e : Env) {t : Nat} (i : Indications) (lt : t < 12) :
    (Env.withIndications t i e).indications t = i := read_write_same e.inputs.indications t i lt

/-- The changes of a status report, each settled before the next (R96; log 4). -/
theorem takeIndications_eq (e : Env) (t : Nat) (old : Indications) (h : Hall) :
    let new := e.indications t
    let rf := settle e (if new.rfPresent = true ∧ old.rfPresent = false then rfCameOn e t h
      else if new.rfPresent = false ∧ old.rfPresent = true then rfWentOff e t h else h)
    let held := settle e (if new.fault = true ∧ old.fault = false then enterHeld e t .txFault rf else rf)
    takeIndications e t old h = if new.ready = true ∧ old.ready = false then becameReady e t held else held := by
  simp only [takeIndications, takeRfPresent, takeFault, takeReady, Bool.and_eq_true, Bool.not_eq_true']

theorem rfCameOn_eq (e : Env) (t : Nat) (h : Hall) : rfCameOn e t h =
    if (h.tx t).rfUp ≠ none then raise (.rfUp t) (h.setTx t fun x => { x with rfUp := none })
    else if (h.tx t).rfEnable = false ∧ (h.tx t).rfDown = none then rfOff e t h else h :=
  if_congr Option.isSome_iff_ne_none rfl
    (if_congr (by rw [Bool.and_eq_true, Bool.not_eq_true', Option.isNone_iff_eq_none]) rfl rfl)

/-- The RF ON request that waited for the RF-down watch is taken (R98). -/
def waitingTaken (e : Env) (t : Nat) (h : Hall) (waiting : Option WaitingRfOn) : Hall :=
  match waiting with
  | some w => if w.forDown = true then rfOnChecked e t w.power w.requesters h else h
  | none => h

theorem rfWentOff_eq (e : Env) (t : Nat) (h : Hall) :
    let cleared := h.setMonitor t fun m => { m with window := [], cleanRun := none }
    rfWentOff e t h =
      if (h.tx t).rfDown ≠ none then
        let off := raise (.rfOff t) (cleared.setTx t fun x => { x with rfDown := none })
        match (h.tx t).rfOn with
        | some w => if w.forDown = true then rfOnChecked e t w.power w.requesters off else off
        | none => off
      else if (h.tx t).rfEnable = true ∧ (h.tx t).rfUp = none then enterHeld e t .txFault cleared else cleared := by
  have waiting : ((raise (.rfOff t) ((h.setMonitor t fun m => { m with window := [], cleanRun := none }).setTx t
      fun x => { x with rfDown := none })).tx t).rfOn = (h.tx t).rfOn :=
    setTx_leaves Tx.rfOn (h.setMonitor t fun m => { m with window := [], cleanRun := none }) t t _ fun _ => rfl
  exact if_congr Option.isSome_iff_ne_none (congrArg (waitingTaken e t _) waiting)
    (if_congr (by rw [Bool.and_eq_true, Option.isNone_iff_eq_none]; exact Iff.rfl) rfl rfl)

/-- The tune held unsent is sent, its timer starting (R106). -/
def heldTuneSent (e : Env) (t : Nat) (h : Hall) : Hall :=
  match (h.tx t).tune with
  | some u =>
    if u.ends = none then
      sendTx e t (.tune t u.frequency)
        (h.setTx t fun x => { x with tune := some { u with ends := some (e.timebase + u.limit) } })
    else h
  | none => h

theorem heldTuneSent_rfOn (e : Env) (t : Nat) (h : Hall) : ((heldTuneSent e t h).tx t).rfOn = (h.tx t).rfOn := by
  unfold heldTuneSent
  split
  · split
    · rw [sendTx_tx]
      exact setTx_leaves Tx.rfOn h t t _ fun _ => rfl
    · rfl
  · rfl

theorem becameReady_eq (e : Env) (t : Nat) (h : Hall) : becameReady e t h =
    match (h.tx t).rfOn with
    | some w =>
      if w.forDown = true then heldTuneSent e t h else rfOnChecked e t w.power w.requesters (heldTuneSent e t h)
    | none => heldTuneSent e t h := by
  have sent : becameReady e t h = match ((heldTuneSent e t h).tx t).rfOn with
      | some w =>
        if w.forDown = true then heldTuneSent e t h else rfOnChecked e t w.power w.requesters (heldTuneSent e t h)
      | none => heldTuneSent e t h := by
    unfold becameReady heldTuneSent
    cases (h.tx t).tune with
    | none => rfl
    | some u => cases ends : u.ends <;> simp only [ends] <;> rfl
  rw [sent, heldTuneSent_rfOn]

/-! ## The events (R96, R99, R101, R105) -/

theorem ite_true_eq_ite_false {α : Type} (b : Bool) (x y : α) : (if b = true then x else y) = if b = false then y else x := by
  cases b <;> rfl

section Events

variable {s : State} {k : Nat}

theorem exec_statusReport (on : s.power = .running) (i : Indications) : exec (.statusReport k i) s =
    .next (State.act { s with env := Env.withIndications k i s.env } fun h =>
      if (s.env.txConfig k).present = false then h
      else takeIndications (Env.withIndications k i s.env) k (s.env.indications k) h) := by
  refine congrArg _ ((event_running on).trans (act_congr ?_))
  exact ite_true_eq_ite_false _ _ _

theorem exec_tuneComplete (on : s.power = .running) (f : Nat) : exec (.tuneComplete k f) s =
    .next (s.act fun h => if (s.env.txConfig k).present = false then h else tuneReported s.env k f h) := by
  refine congrArg _ ((event_running on).trans (act_congr ?_))
  exact ite_true_eq_ite_false _ _ _

section Timers

variable (on : s.power = .running) {limit : Nat}

include on

theorem exec_tuneTimeout (runs : (s.hall.tx k).tune.bind (·.ends) = some limit) : exec (.tuneTimeout k) s =
    .next (State.act { s with env := { s.env with timebase := max s.env.timebase limit } }
      (enterHeld { s.env with timebase := max s.env.timebase limit } k .tune)) := by
  have timed : (s.hall.tx k).tune.any (·.ends.isSome) = true := by
    obtain ⟨u, tune, ends⟩ := Option.bind_eq_some_iff.mp runs
    rw [tune, Option.any_some, ends, Option.isSome_some]
  exact congrArg _ ((expiry_taken (limit := fun h => (h.tx k).tune.bind (·.ends)) on runs).trans
    (act_congr (if_pos timed)))

theorem exec_rfUpTimeout (runs : (s.hall.tx k).rfUp = some limit) : exec (.rfUpTimeout k) s =
    .next (State.act { s with env := { s.env with timebase := max s.env.timebase limit } } fun h =>
      let stopped := h.setTx k fun x => { x with rfUp := none }
      if s.env.rfPresent k then stopped
      else enterHeld { s.env with timebase := max s.env.timebase limit } k .rfUp stopped) := by
  have watched : ¬ (s.hall.tx k).rfUp.isNone = true := by rw [runs]; exact Bool.false_ne_true
  exact congrArg _ ((expiry_taken (limit := fun h => (h.tx k).rfUp) on runs).trans (act_congr (if_neg watched)))

theorem exec_rfDownTimeout (runs : (s.hall.tx k).rfDown = some limit) : exec (.rfDownTimeout k) s =
    .next (State.act { s with env := { s.env with timebase := max s.env.timebase limit } } fun h =>
      let e := { s.env with timebase := max s.env.timebase limit }
      let stopped := post e .rfFault k (h.setTx k fun x => { x with rfDown := none })
      if (h.tx k).state = .held then stopped.setTx k fun x => { x with reason := some .rfStuckOn }
      else enterHeld e k .rfStuckOn stopped) := by
  have watched : ¬ (s.hall.tx k).rfDown.isNone = true := by rw [runs]; exact Bool.false_ne_true
  have state (h : Hall) := setTx_leaves Tx.state h k k (fun x => { x with rfDown := none }) fun _ => rfl
  refine congrArg _ ((expiry_taken (limit := fun h => (h.tx k).rfDown) on runs).trans
    (act_congr ((if_neg watched).trans ?_)))
  exact if_congr (iff_of_eq (congrArg (· = TxState.held) (state _))) rfl rfl

end Timers

end Events

/-- Settles O48: a report by its changes in order, a tune report by the outstanding tune, and each timer by whether it runs. -/
theorem reportsAndTimersOfATransmitter : Obligations.ReportsAndTimersOfATransmitter := by
  unfold Obligations.ReportsAndTimersOfATransmitter
  refine ⟨fun e t h => ⟨takePendingTune_none, fun p => takePendingTune_some⟩, fun t f who h => rfl,
    ⟨fun s k i on lt => ?report, fun s k f on => ?tuned⟩,
    fun e t h => ⟨rfCameOn_eq e t h, rfWentOff_eq e t h, fun _ => becameReady_eq e t h⟩,
    ⟨fun s k limit on => ⟨exec_tuneTimeout on, exec_rfUpTimeout on, exec_rfDownTimeout on⟩,
      fun s k => ⟨fun stopped => congrArg _ (expiry_none stopped), fun stopped => congrArg _ (expiry_none stopped),
        fun stopped => congrArg _ (expiry_none stopped)⟩⟩⟩
  case report =>
    have taken := takeIndications_eq (Env.withIndications k i s.env) k (s.env.indications k) { s.hall with orders := [] }
    rw [withIndications_same s.env i lt] at taken
    exact (exec_statusReport on i).trans (congrArg _ (act_congr (if_congr Iff.rfl rfl taken)))
  case tuned =>
    exact (exec_tuneComplete on f).trans
      (congrArg _ (act_congr (if_congr Iff.rfl rfl (tuneReported_eq s.env k f { s.hall with orders := [] }))))

end Sys2Proof.Machine
end


section
/-! The trip ladder, the substitution on air, and the recycle and clean-run timers (R109, R129, R139 to R143): O50. -/

namespace Sys2Proof.Machine

/-! ## A trip (R109, R139) -/

theorem setMonitor_setMonitor (h : Hall) {t : Nat} (f g : Monitor → Monitor) (lt : t < 12) :
    (h.setMonitor t f).setMonitor t g = h.setMonitor t fun m => g (f m) := by
  simp only [Hall.setMonitor, update_update h.monitors t f g lt]

section Trip

variable (e : Env) (k : Nat) (h : Hall)

/-- A trip taken down, counted and posted, the clean-run timer stopped, before the ladder is looked at (R139). -/
def tripCounted : Hall :=
  post e .trip k ((tripTx e k (h.setMonitor k fun m => { m with tripAntenna := (h.carriage k).map (·.antenna) })).setMonitor k
    fun m => { m with tripCount := m.tripCount + 1, cleanRun := none })

theorem tripTx_frame : tripTx e k h =
    { h with txs := (tripTx e k h).txs, orders := (tripTx e k h).orders, agenda := (tripTx e k h).agenda } := by
  unfold tripTx
  rw [rfOff_frame]
  rfl

theorem tripCounted_frame : tripCounted e k h = { tripCounted e k h with
    carriages := h.carriages, attention := h.attention.post e.mask .trip k } := by
  unfold tripCounted
  rw [tripTx_frame]
  rfl

theorem tripCounted_carriage : (tripCounted e k h).carriage k = h.carriage k := by
  rw [tripCounted_frame]
  rfl

theorem tripCounted_sent (present : (e.txConfig k).present = true) : .rfOff k ∈ (tripCounted e k h).orders :=
  rfOff_sent _ present

variable {k} (lt : k < 12)

include lt

theorem tripCounted_monitor : (tripCounted e k h).monitor k =
    { h.monitor k with tripAntenna := (h.carriage k).map (·.antenna), tripCount := (h.monitor k).tripCount + 1
                       cleanRun := none } := by
  refine (monitor_setMonitor_same _ k _ lt).trans ?_
  rw [tripTx, rfOff_monitor]
  exact congrArg (fun m : Monitor => { m with tripCount := m.tripCount + 1, cleanRun := none })
    (monitor_setMonitor_same h k _ lt)

theorem tripCounted_rfEnable : ((tripCounted e k h).tx k).rfEnable = false := rfOff_rfEnable e k _ lt

theorem tripCounted_state (serving : (h.tx k).state = .serving) : ((tripCounted e k h).tx k).state = .recycling := by
  refine (rfOff_state e _ lt).trans ((congrArg Tx.state (tx_setTx_same _ k _ lt)).trans ?_)
  exact if_pos serving

theorem trip_eq : trip e k h =
    if ((tripCounted e k h).monitor k).tripCount ≤ e.config.hall.retryLimit then
      (tripCounted e k h).setMonitor k fun m =>
        { m with recycle := some (e.timebase + e.config.hall.recycleDelay * 1000) }
    else pastRetryLimit e k (tripCounted e k h) := by
  have counted : tripCounted e k h = (post e .trip k
      ((tripTx e k (h.setMonitor k fun m => { m with tripAntenna := (h.carriage k).map (·.antenna) })).setMonitor k
        fun m => { m with tripCount := m.tripCount + 1 })).setMonitor k fun m => { m with cleanRun := none } :=
    (congrArg (post e .trip k) (setMonitor_setMonitor _ (fun m => { m with tripCount := m.tripCount + 1 })
      (fun m => { m with cleanRun := none }) lt)).symm
  rw [counted]
  rfl

/-- Up to the retry limit a trip starts the recycle timer (R139). -/
theorem trip_recycles (below : (h.monitor k).tripCount < e.config.hall.retryLimit) : trip e k h =
    (tripCounted e k h).setMonitor k fun m =>
      { m with recycle := some (e.timebase + e.config.hall.recycleDelay * 1000) } := by
  rw [trip_eq e h lt, tripCounted_monitor e h lt]
  exact if_pos below

theorem trip_pastLimit (reached : e.config.hall.retryLimit ≤ (h.monitor k).tripCount) :
    trip e k h = pastRetryLimit e k (tripCounted e k h) := by
  rw [trip_eq e h lt, tripCounted_monitor e h lt]
  exact if_neg (Nat.not_le.mpr (Nat.lt_succ_of_le reached))

end Trip

/-! ## The substitution on air (R129) -/

section Substitution

variable {e : Env} {t : Nat} {c : Carriage} {h : Hall} (is : h.carriage t = some c)

include is

/-- A column is as usable while a carriage is changed in place: only whether a row has one counts (R117). -/
theorem usable_setCarriage (d : Carriage) (u a : Nat) : usable e (h.setCarriage t (some d)) u a = usable e h u a := by
  have same (r : Nat) : ((h.setCarriage t (some d)).carriage r).isSome = (h.carriage r).isSome := by
    by_cases own : r = t
    · rw [own, carriage_setCarriage_same h t _ (carriage_some_lt is), is]
      rfl
    · rw [carriage_setCarriage_ne h t r _ own]
  unfold usable
  simp only [same]
  rfl

theorem freeAlternate_setCarriage (d : Carriage) : freeAlternate e (h.setCarriage t (some d)) t c = freeAlternate e h t c := by
  simp only [freeAlternate, usable_setCarriage is]
  rfl

/-- A substitution on air, by the carriage's phase and history and then by its alternate (R129, R141). -/
theorem substituteOnAir_eq (forTrip : Bool) : substituteOnAir e t forTrip h =
    let tried := if forTrip then h.setCarriage t (some { c with tripUsed := true }) else h
    if ¬ (c.phase = .keying ∨ c.phase = .onAir) ∨ c.substituted = true ∨ (forTrip = true ∧ c.tripUsed = true) then
      (false, tried)
    else match freeAlternate e h t c with
      | none => (false, tried)
      | some (a, x) =>
        (true, reprepare e t false (moveToAlternate e t a x { c with tripUsed := c.tripUsed || forTrip } tried)) := by
  have alternate : freeAlternate e (if forTrip then h.setCarriage t (some { c with tripUsed := true }) else h) t c =
      freeAlternate e h t c := by
    cases forTrip
    · rfl
    · exact freeAlternate_setCarriage is _
  have live : c.phase.live = true ↔ c.phase = .keying ∨ c.phase = .onAir := by
    cases c.phase <;> simp [Phase.live]
  simp only [substituteOnAir, is, alternate]
  refine if_congr ?_ rfl ?_
  · rw [Bool.or_eq_true, Bool.or_eq_true, Bool.and_eq_true, Bool.not_eq_true', ← live, Bool.not_eq_true, or_assoc]
  · cases freeAlternate e h t c <;> rfl

theorem substituteOnAir_tried (forTrip : Bool) (barred : ¬ (c.phase = .keying ∨ c.phase = .onAir) ∨ c.substituted = true ∨
    (forTrip = true ∧ c.tripUsed = true) ∨ freeAlternate e h t c = none) : substituteOnAir e t forTrip h =
      (false, if forTrip then h.setCarriage t (some { c with tripUsed := true }) else h) := by
  rw [substituteOnAir_eq is]
  dsimp only
  split
  · rfl
  · next passes =>
    have none' : freeAlternate e h t c = none := by tauto
    rw [none']

theorem substituteOnAir_granted (forTrip : Bool) {a : Nat} {x : Setting} (live : c.phase = .keying ∨ c.phase = .onAir)
    (own : c.substituted = false) (first : ¬ (forTrip = true ∧ c.tripUsed = true))
    (alternate : freeAlternate e h t c = some (a, x)) : substituteOnAir e t forTrip h =
      (true, reprepare e t false (moveToAlternate e t a x { c with tripUsed := c.tripUsed || forTrip }
        (if forTrip then h.setCarriage t (some { c with tripUsed := true }) else h))) := by
  have passes : ¬ (¬ (c.phase = .keying ∨ c.phase = .onAir) ∨ c.substituted = true ∨ (forTrip = true ∧ c.tripUsed = true)) := by
    rw [own]
    tauto
  rw [substituteOnAir_eq is]
  dsimp only
  rw [if_neg passes, alternate]

/-- A trip's request is refused and remembered, or moves the carriage to its alternate (R129, R141). -/
theorem substituteOnAir_forTrip :
    substituteOnAir e t true h = (false, h.setCarriage t (some { c with tripUsed := true })) ∨
    ∃ a x, substituteOnAir e t true h = (true, reprepare e t false
      (moveToAlternate e t a x { c with tripUsed := true } (h.setCarriage t (some { c with tripUsed := true })))) := by
  by_cases barred : ¬ (c.phase = .keying ∨ c.phase = .onAir) ∨ c.substituted = true ∨
    (true = true ∧ c.tripUsed = true) ∨ freeAlternate e h t c = none
  · exact .inl (substituteOnAir_tried is true barred)
  · obtain ⟨live, own, first, some'⟩ : (c.phase = .keying ∨ c.phase = .onAir) ∧ c.substituted = false ∧
        ¬ (true = true ∧ c.tripUsed = true) ∧ freeAlternate e h t c ≠ none := by
      rw [← Bool.not_eq_true]
      tauto
    obtain ⟨⟨a, x⟩, alternate⟩ := Option.ne_none_iff_exists'.mp some'
    refine .inr ⟨a, x, ?_⟩
    rw [substituteOnAir_granted is true live own first alternate, Bool.or_true]
    rfl

end Substitution

/-! ## Past the retry limit (R141, R142) -/

/-- The antenna of a trip marked SUSPECT (R142). -/
def tripMarked (e : Env) (k : Nat) (h : Hall) : Hall :=
  match (h.monitor k).tripAntenna with
  | some a => markSuspect e a h
  | none => h

theorem pastRetryLimit_eq (e : Env) (k : Nat) (h : Hall) : pastRetryLimit e k h =
    let answer := substituteOnAir e k true h
    if h.carriage k = none then tripMarked e k h
    else if answer.1 = true then (tripMarked e k answer.2).setMonitor k fun m => { m with tripCount := 0, recycle := none }
    else enterHeld e k .trips (tripMarked e k answer.2) :=
  if_congr Option.isNone_iff_eq_none rfl rfl

theorem markSuspect_frame (e : Env) (a : Nat) (h : Hall) : markSuspect e a h =
    { h with matrix := (markSuspect e a h).matrix, attention := (markSuspect e a h).attention } := by
  unfold markSuspect
  split <;> rfl

theorem moveToAlternate_monitor {e : Env} {t a : Nat} {x : Setting} {c : Carriage} {h : Hall} (u : Nat) :
    (moveToAlternate e t a x c h).monitor u = h.monitor u := by
  refine ((onlyCues_refresh e t _).monitor u).trans ?_
  rw [grantClaim_frame]
  rfl

/-- A re-preparation leaves the antenna of the trip (R130, R139). -/
theorem reprepare_tripAntenna {e : Env} {t : Nat} {c : Carriage} {retune : Bool} {h : Hall} (is : h.carriage t = some c) :
    ((reprepare e t retune h).monitor t).tripAntenna = (h.monitor t).tripAntenna := by
  have row := carriage_some_lt is
  rw [reprepare_eq row is, rfOff_monitor]
  split
  · have kept := congrArg Monitor.tripAntenna
      (monitor_setMonitor_same (h.setCarriage t (some (brokenOff e retune c))) t (fun m => { m with recycle := none }) row)
    exact kept
  · rfl

theorem enterHeld_antenna {e : Env} {t : Nat} {h : Hall} (reason : HeldReason) (free : (h.tx t).state ≠ .held) (a : Nat) :
    (enterHeld e t reason h).antenna a = h.antenna a := by
  unfold Hall.antenna
  rw [enterHeld_matrix reason free]
  split <;> rfl

section PastLimit

variable {e : Env} {k : Nat} {c : Carriage} {h : Hall} (is : h.carriage k = some c)
  (known : (h.monitor k).tripAntenna = some c.antenna) (column : c.antenna < 25)

include is known column

/-- Granted, the carriage is prepared again on its alternate and the ladder begins anew (R141). -/
theorem substituted_facts {a : Nat} {x : Setting} :
    let tried := h.setCarriage k (some { c with tripUsed := true })
    let moved := reprepare e k false (moveToAlternate e k a x { c with tripUsed := true } tried)
    let left := (tripMarked e k moved).setMonitor k fun m => { m with tripCount := 0, recycle := none }
    (left.tx k).rfEnable = false ∧ (left.antenna c.antenna).suspect = true ∧ (left.monitor k).tripCount = 0 ∧
    ∃ d, left.carriage k = some d ∧ d.substituted = true ∧ d.tripUsed = true ∧ d.phase = .rfDown := by
  intro tried moved left
  have row := carriage_some_lt is
  have carried : (moveToAlternate e k a x { c with tripUsed := true } tried).carriage k =
      some (({ c with tripUsed := true } : Carriage).moved a x) := moveToAlternate_carriage row
  have tripped : (moved.monitor k).tripAntenna = some c.antenna := by
    rw [reprepare_tripAntenna carried, moveToAlternate_monitor]
    exact known
  have marked : tripMarked e k moved = markSuspect e c.antenna moved := by
    unfold tripMarked
    rw [tripped]
  obtain ⟨again, dark, -⟩ := reprepare_facts (e := e) (retune := false) row carried
  have tx : left.tx k = moved.tx k := by
    dsimp only [left]
    rw [marked, markSuspect_frame]
    rfl
  have carriage : left.carriage k = moved.carriage k := by
    dsimp only [left]
    rw [marked, markSuspect_frame]
    rfl
  have suspect : (left.antenna c.antenna).suspect = true := by
    dsimp only [left]
    rw [marked]
    exact congrArg Antenna.suspect (markSuspect_antenna e moved column)
  rw [tx, carriage]
  exact ⟨dark, suspect, congrArg Monitor.tripCount (monitor_setMonitor_same _ k _ row), _, again, rfl, rfl, rfl⟩

/-- Refused, the transmitter is HELD with reason TRIPS (R142). -/
theorem unsubstituted_facts (free : (h.tx k).state ≠ .held) :
    let left := enterHeld e k .trips (tripMarked e k (h.setCarriage k (some { c with tripUsed := true })))
    (left.tx k).rfEnable = false ∧ (left.antenna c.antenna).suspect = true ∧
    (left.tx k).state = .held ∧ (left.tx k).reason = some .trips := by
  intro left
  have row := carriage_some_lt is
  have marked : tripMarked e k (h.setCarriage k (some { c with tripUsed := true })) =
      markSuspect e c.antenna (h.setCarriage k (some { c with tripUsed := true })) := by
    have tripped : ((h.setCarriage k (some { c with tripUsed := true })).monitor k).tripAntenna = some c.antenna := known
    unfold tripMarked
    rw [tripped]
  have unheld : ((markSuspect e c.antenna (h.setCarriage k (some { c with tripUsed := true }))).tx k).state ≠ .held := by
    rw [markSuspect_frame]
    exact free
  dsimp only [left]
  rw [marked, enterHeld_tx .trips row unheld, enterHeld_antenna .trips unheld, markSuspect_antenna e _ column]
  exact ⟨rfOff_rfEnable e k _ row, rfl, rfl, rfl⟩

/-- What a trip past the retry limit comes to, by the answer to its request (R141, R142). -/
theorem pastRetryLimit_facts (free : (h.tx k).state ≠ .held) :
    ((pastRetryLimit e k h).tx k).rfEnable = false ∧ ((pastRetryLimit e k h).antenna c.antenna).suspect = true ∧
    (((pastRetryLimit e k h).tx k).state = .held ∧ ((pastRetryLimit e k h).tx k).reason = some .trips ∨
     (((pastRetryLimit e k h).monitor k).tripCount = 0 ∧
       ∃ d, (pastRetryLimit e k h).carriage k = some d ∧ d.substituted = true ∧ d.tripUsed = true ∧ d.phase = .rfDown)) := by
  have carried : h.carriage k ≠ none := by rw [is]; exact nofun
  rw [pastRetryLimit_eq]
  dsimp only
  rw [if_neg carried]
  rcases substituteOnAir_forTrip is (e := e) with refused | ⟨a, x, granted⟩
  · obtain ⟨dark, suspect, held⟩ := unsubstituted_facts (e := e) is known column free
    rw [refused, if_neg Bool.false_ne_true]
    exact ⟨dark, suspect, .inl held⟩
  · obtain ⟨dark, suspect, again⟩ := substituted_facts (e := e) (a := a) (x := x) is known column
    rw [granted, if_pos rfl]
    exact ⟨dark, suspect, .inr again⟩

end PastLimit

/-! ## The monitor's timers (R140, R143) -/

section Timers

variable {s : State} {k : Nat} (on : s.power = .running) {limit : Nat}

include on

theorem exec_recycleTimerExpiry (runs : (s.hall.monitor k).recycle = some limit) : exec (.recycleTimerExpiry k) s =
    .next (State.act { s with env := { s.env with timebase := max s.env.timebase limit } } fun h =>
      recycleTx { s.env with timebase := max s.env.timebase limit } k (h.setMonitor k fun m => { m with recycle := none })) := by
  have running : (s.hall.monitor k).recycle.isSome = true := by rw [runs]; rfl
  exact congrArg _ ((expiry_taken (limit := fun h => (h.monitor k).recycle) on runs).trans (act_congr (if_pos running)))

theorem exec_cleanRunExpiry (runs : (s.hall.monitor k).cleanRun = some limit) : exec (.cleanRunExpiry k) s =
    .next (State.act { s with env := { s.env with timebase := max s.env.timebase limit } } fun h =>
      h.setMonitor k fun m => { m with cleanRun := none, tripCount := 0 }) := by
  have running : (s.hall.monitor k).cleanRun.isSome = true := by rw [runs]; rfl
  exact congrArg _ ((expiry_taken (limit := fun h => (h.monitor k).cleanRun) on runs).trans (act_congr (if_pos running)))

end Timers

/-- Settles O50: a trip by the retry limit, the ladder by the answer to its request, and each timer by whether it runs. -/
theorem tripAndRecycle : Obligations.TripAndRecycle := by
  unfold Obligations.TripAndRecycle
  refine ⟨fun e k h lt below => ?recycles, fun e k c h lt is column reached serving => ?ladder,
    fun e k h lt reached => ⟨trip_pastLimit e h lt reached, rfl⟩, fun e k h => ?answer,
    fun e t c forTrip h is => ⟨substituteOnAir_tried is forTrip, fun a x => substituteOnAir_granted is forTrip,
      fun a x => rfl⟩,
    fun s k limit on => ⟨exec_recycleTimerExpiry on, exec_cleanRunExpiry on⟩,
    fun s k => ⟨fun stopped => congrArg _ (expiry_none stopped), fun stopped => congrArg _ (expiry_none stopped)⟩⟩
  case recycles =>
    rw [trip_recycles e h lt below, monitor_setMonitor_same _ k _ lt, tripCounted_monitor e h lt]
    exact ⟨rfl, tripCounted_rfEnable e h lt, tripCounted_state e h lt, congrArg Hall.attention (tripCounted_frame e k h),
      tripCounted_sent e k h⟩
  case ladder =>
    have free : ((tripCounted e k h).tx k).state ≠ .held := by
      rw [tripCounted_state e h lt serving]
      decide
    have known : ((tripCounted e k h).monitor k).tripAntenna = some c.antenna := by
      rw [tripCounted_monitor e h lt, is]
      rfl
    rw [trip_pastLimit e h lt reached]
    exact pastRetryLimit_facts ((tripCounted_carriage e k h).trans is) known column free
  case answer =>
    intro marked answer
    have marks : tripMarked e k = marked := by
      funext x
      unfold tripMarked
      dsimp only [marked]
      cases (x.monitor k).tripAntenna <;> rfl
    rw [pastRetryLimit_eq, marks]
    exact ⟨fun gone => if_pos gone, fun carried => if_neg carried⟩

end Sys2Proof.Machine
end


section
/-! TAKE LOCAL and CLEAR HELD, and the end of a carriage whose transmitter goes LOCAL (R110, R164): O45, its first part. -/

namespace Sys2Proof.Machine

/-! ## The commands (R110, R164, R166) -/

section Commands

variable {s : State} {tag : Byte} (yes : s.takes .console = true)

include yes

theorem takeLocal_made (k : Nat) : exec (.takeLocal tag (.fields k)) s =
    if 11 < k then answers s .console 27 tag .format
    else if (s.env.txConfig k).present = false then answers s .console 27 tag .range
    else if (s.hall.tx k).mode = .console then answers s .console 27 tag .done
    else takes s .console 27 tag (takeLocalChange s.env k) := by
  refine (frame_made yes).trans ?_
  unfold takeLocalRun
  rw [made_ite, made_ite, made_ite]
  exact if_congr Iff.rfl rfl (if_congr (by rw [Bool.not_eq_true']) rfl (if_congr Iff.rfl rfl rfl))

theorem giveRemote_made (no : s.hall.matrix.survey = none) (k : Nat) : exec (.giveRemote tag (.fields k)) s =
    if 11 < k then answers s .console 28 tag .format
    else if (s.env.txConfig k).present = false then answers s .console 28 tag .range
    else if (s.hall.tx k).mode = .remote then answers s .console 28 tag .done
    else takes s .console 28 tag (giveRemoteChange s.env k) := by
  refine (request_made yes no).trans ?_
  unfold giveRemoteRun
  rw [made_ite, made_ite, made_ite]
  exact if_congr Iff.rfl rfl (if_congr (by rw [Bool.not_eq_true']) rfl (if_congr Iff.rfl rfl rfl))

theorem clearHeld_made (k : Nat) : exec (.clearHeld tag (.fields k)) s =
    if 11 < k then answers s .console 33 tag .format
    else if (s.env.txConfig k).present = false then answers s .console 33 tag .range
    else if (s.hall.tx k).state ≠ .held then answers s .console 33 tag .done
    else if (s.env.indications k).fault = true ∨ (s.env.indications k).rfPresent = true then
      answers s .console 33 tag .busy
    else takes s .console 33 tag (clearHeldChange s.env k) := by
  refine (frame_made yes).trans ?_
  unfold clearHeldRun
  rw [made_ite, made_ite, made_ite, made_ite]
  refine if_congr Iff.rfl rfl (if_congr (by rw [Bool.not_eq_true']) rfl (if_congr Iff.rfl rfl (if_congr ?_ rfl rfl)))
  rw [Bool.or_eq_true]
  rfl

end Commands

/-! ## CLEAR HELD (R110) -/

theorem clearHeldChange_tx (e : Env) {k : Nat} (h : Hall) (lt : k < 12) : (clearHeldChange e k h).tx k =
    { h.tx k with reason := none, state := if (h.tx k).mode = .console then .console else .idle } :=
  ((onlyCues_refresh e k _).tx k).trans (tx_setTx_same h k _ lt)

theorem clearHeldChange_monitor (e : Env) {k : Nat} (h : Hall) (lt : k < 12) :
    (clearHeldChange e k h).monitor k = { h.monitor k with tripCount := 0 } :=
  ((onlyCues_refresh e k _).monitor k).trans (monitor_setMonitor_same _ k _ lt)

/-! ## Tunes leave the mode (R104, R106) -/

section Mode

variable (e : Env) (t : Nat) (h : Hall)

theorem takeTune_mode (f : Nat) (who : Requester) : ((takeTune e t f who h).tx t).mode = (h.tx t).mode := by
  have kept (f : Tx → Tx) := setTx_leaves Tx.mode h t t f
  unfold takeTune startTune tellTuned
  split
  · exact kept _ fun _ => rfl
  · split
    · split <;> rfl
    · dsimp only
      split
      · rw [sendTx_tx]
        exact kept _ fun _ => rfl
      · exact kept _ fun _ => rfl

theorem takePendingTune_mode : ((takePendingTune e t h).tx t).mode = (h.tx t).mode := by
  have kept := setTx_leaves Tx.mode h t t (fun x => { x with pendingTune := none }) fun _ => rfl
  cases pending : (h.tx t).pendingTune with
  | none => rw [takePendingTune_none pending]
  | some p =>
    have either : takePendingTune e t h = h.setTx t (fun x => { x with pendingTune := none }) ∨
        takePendingTune e t h = takeTune e t p.frequency p.requester (h.setTx t fun x => { x with pendingTune := none }) := by
      simp only [takePendingTune, pending]
      exact ite_eq_or_eq ..
    rcases either with dropped | taken
    · rw [dropped]
      exact kept
    · rw [taken]
      exact (takeTune_mode e t _ _ _).trans kept

theorem withdrawTune_mode : ((withdrawTune e t h).tx t).mode = (h.tx t).mode := by
  have filtered := setTx_leaves Tx.mode h t t
    (fun x => { x with pendingTune := x.pendingTune.filter fun p => p.requester != .carriage }) fun _ => rfl
  unfold withdrawTune
  dsimp only
  split
  · split
    · split
      · refine (setTx_leaves Tx.mode _ t t _ ?_).trans filtered
        exact fun _ => rfl
      · refine (takePendingTune_mode e t _).trans ((setTx_leaves Tx.mode _ t t _ ?_).trans filtered)
        exact fun _ => rfl
    · exact filtered
  · exact filtered

end Mode

/-! ## The waiting list of a LOCAL transmitter (R113, R115) -/

section Waiting

variable {e : Env} {t : Nat}

theorem tryOpen_console {b : Offered} {w : Waiting} {h : Hall} (console : (h.tx t).mode = .console) :
    ∃ o, tryOpen e t b w h = settleOutcome e b.number o h := by
  rw [tryOpen_eq]
  by_cases stopped : e.mode = .stopped
  · exact ⟨.missed, if_pos stopped⟩
  · exact ⟨.tookLocal, (if_neg stopped).trans (if_pos console)⟩

theorem settleOutcome_carriage (n : Nat) (o : RunOutcome) (h : Hall) (u : Nat) :
    (settleOutcome e n o h).carriage u = h.carriage u := by
  rw [settleOutcome_frame]
  rfl

/-- An entry reached on a LOCAL transmitter opens nothing: at most its outcome is settled (R115). -/
theorem reachEntry_console {w : Waiting} {h : Hall} (console : (h.tx t).mode = .console) (empty : h.carriage t = none) :
    reachEntry e t w h = h ∨ ∃ o, reachEntry e t w h = settleOutcome e w.booking o h := by
  cases booked : h.booking w.booking with
  | none => exact .inl (by simp only [reachEntry, booked])
  | some b =>
    obtain ⟨o, tried⟩ := tryOpen_console (e := e) (b := b.fields) (w := w) console
    rw [booking_number booked] at tried
    rw [reachEntry_eq booked, tried, settleOutcome_carriage, empty]
    split
    · exact .inr ⟨.missed, rfl⟩
    · exact .inr ⟨o, if_neg fun opened => Bool.false_ne_true opened.1⟩

/-- An outcome settled leaves those of every other number (R23, R114). -/
theorem settleOutcome_others {m n : Nat} {o p : RunOutcome} {h : Hall} (ne : m ≠ n) (of : OutcomesOf n o h) :
    OutcomesOf n o (settleOutcome e m p h) := by
  intro r mem is
  rw [settleOutcome_records] at mem
  obtain ⟨old, stood, rfl⟩ := List.mem_map.mp mem
  by_cases named : old.fields.number = m
  · rw [if_pos named] at is
    exact absurd (named.symm.trans is) ne
  · rw [if_neg named] at is ⊢
    exact of old stood is

/-- What the waiting list of a LOCAL transmitter leaves: its transmitter, no carriage, and outcomes it does not name. -/
theorem reachEntries_console (l : List Waiting) : ∀ h : Hall, (h.tx t).mode = .console → h.carriage t = none →
    (reachEntries e t l h).tx t = h.tx t ∧ (reachEntries e t l h).carriage t = none ∧
    ∀ n o, (∀ w ∈ l, w.booking ≠ n) → OutcomesOf n o h → OutcomesOf n o (reachEntries e t l h) := by
  induction l with
  | nil => exact fun h _ empty => ⟨rfl, empty, fun _ _ _ of => of⟩
  | cons w rest ih =>
    intro h console empty
    have reached : ((reachEntry e t w (h.setWaiting t rest)).tx t = h.tx t ∧
        (reachEntry e t w (h.setWaiting t rest)).carriage t = none) ∧
        ∀ n o, w.booking ≠ n → OutcomesOf n o h → OutcomesOf n o (reachEntry e t w (h.setWaiting t rest)) := by
      rcases reachEntry_console (e := e) (w := w) (h := h.setWaiting t rest) console empty with same | ⟨p, settled⟩
      · rw [same]
        exact ⟨⟨rfl, empty⟩, fun n o _ of => of⟩
      · rw [settled]
        refine ⟨⟨?_, (settleOutcome_carriage ..).trans empty⟩, fun n o ne of => settleOutcome_others ne of⟩
        rw [settleOutcome_frame]
        rfl
    obtain ⟨⟨tx, gone⟩, outcomes⟩ := reached
    have next : reachEntries e t (w :: rest) h = reachEntries e t rest (reachEntry e t w (h.setWaiting t rest)) := by
      simp only [reachEntries, gone, Option.isSome_none, Bool.false_eq_true, if_false]
    obtain ⟨tx', gone', outcomes'⟩ := ih _ (by rw [tx]; exact console) gone
    rw [next]
    refine ⟨tx'.trans tx, gone', fun n o others of => ?_⟩
    exact outcomes' n o (fun w' mem => others w' (List.mem_cons_of_mem w mem))
      (outcomes n o (others w List.mem_cons_self) of)

end Waiting

/-! ## TAKE LOCAL (R95, R164) -/

section TakeLocal

variable {e : Env} {t : Nat} {c : Carriage} {h : Hall}

/-- The end of a carriage of a transmitter that is LOCAL already (R127, R164). -/
theorem endCarriage_console (is : h.carriage t = some c) (console : (h.tx t).mode = .console) :
    ((endCarriage e t h).tx t).mode = .console ∧
    ((endCarriage e t h).tx t).state =
      (if (h.tx t).state = .held ∨ (h.tx t).state = .console then (h.tx t).state else .idle) ∧
    ((endCarriage e t h).tx t).rfEnable = (h.tx t).rfEnable ∧ (endCarriage e t h).carriage t = none ∧
    ((∀ w ∈ h.waitingList t, w.booking ≠ c.booking) → OutcomesOf c.booking c.outcome (endCarriage e t h)) := by
  have row := carriage_some_lt is
  have tx := left_tx e c h row
  have mode : ((carriageLeft e c h t).tx t).mode = .console := by
    rw [tx]
    exact (withdrawTune_mode e t h).trans console
  obtain ⟨same, gone, outcomes⟩ := reachEntries_console (e := e) (h.waitingList t) _ mode (left_carriage e c h row)
  rw [endCarriage_eq e h row is, same]
  refine ⟨mode, congrArg Tx.state tx, ?_, gone, fun others => outcomes _ _ others (left_outcomes e c h)⟩
  rw [tx]
  exact (withdrawTune_sameRf e t h).2

/-- A carriage ended at once on a transmitter that is LOCAL already (R127, R164). -/
theorem endWith_console (o : RunOutcome) (is : h.carriage t = some c) (console : (h.tx t).mode = .console) :
    ((endWith e t o h).tx t).mode = .console ∧
    ((endWith e t o h).tx t).state =
      (if (h.tx t).state = .held ∨ (h.tx t).state = .console then (h.tx t).state else .idle) ∧
    ((endWith e t o h).tx t).rfEnable = (h.tx t).rfEnable ∧ (endWith e t o h).carriage t = none ∧
    ((∀ w ∈ h.waitingList t, w.booking ≠ c.booking) → OutcomesOf c.booking o (endWith e t o h)) := by
  rw [endWith_eq is]
  exact endCarriage_console (carriage_setCarriage_same h t (some { c with outcome := o }) (carriage_some_lt is)) console

/-- A transmitter on its way to LOCAL, the tune of its carriage running on for nobody (R95, R164). -/
def consoleTaken (t : Nat) (h : Hall) : Hall :=
  h.setTx t fun x => { orphanTune x with mode := .console, state := if x.state = .held then .held else .console }

theorem consoleTaken_tx (h : Hall) (row : t < 12) : (consoleTaken t h).tx t =
    { orphanTune (h.tx t) with mode := .console, state := if (h.tx t).state = .held then .held else .console } :=
  tx_setTx_same h t _ row

theorem takeLocalChange_none (no : h.carriage t = none) : takeLocalChange e t h =
    if ((consoleTaken t h).tx t).state = .held then consoleTaken t h
    else refresh e t ((consoleTaken t h).setMonitor t fun m => { m with recycle := none }) := by
  have none' : (consoleTaken t h).carriage t = none := no
  unfold consoleTaken at none' ⊢
  simp only [takeLocalChange, none']

theorem takeLocalChange_some (is : h.carriage t = some c) : takeLocalChange e t h =
    if c.phase = .ending then endCarriage e t (consoleTaken t h)
    else endWith e t .tookLocal (consoleTaken t h) := by
  have carried : (consoleTaken t h).carriage t = some c := is
  unfold consoleTaken at carried ⊢
  simp only [takeLocalChange, carried]

variable (e) in
/-- What TAKE LOCAL makes of a transmitter and its carriage (R164). -/
theorem takeLocalChange_facts (h : Hall) (row : t < 12) :
    ((takeLocalChange e t h).tx t).mode = .console ∧
    ((takeLocalChange e t h).tx t).state = (if (h.tx t).state = .held then .held else .console) ∧
    ((takeLocalChange e t h).tx t).rfEnable = (h.tx t).rfEnable ∧ (takeLocalChange e t h).carriage t = none ∧
    ∀ c, h.carriage t = some c → c.phase ≠ .ending → (∀ w ∈ h.waitingList t, w.booking ≠ c.booking) →
      OutcomesOf c.booking .tookLocal (takeLocalChange e t h) := by
  have tx := consoleTaken_tx h row
  have carriages : ∀ u, (consoleTaken t h).carriage u = h.carriage u := fun u => rfl
  have lists : ∀ u, (consoleTaken t h).waitingList u = h.waitingList u := fun u => rfl
  have none' := takeLocalChange_none (e := e) (t := t) (h := h)
  have some' := fun c => takeLocalChange_some (e := e) (t := t) (c := c) (h := h)
  generalize consoleTaken t h = g at *
  have mode := congrArg Tx.mode tx
  have state := congrArg Tx.state tx
  have enable := congrArg Tx.rfEnable tx
  have settled : (if (g.tx t).state = .held ∨ (g.tx t).state = .console then (g.tx t).state else .idle) =
      if (h.tx t).state = .held then .held else .console := by
    rw [state]
    by_cases held : (h.tx t).state = .held <;> simp [held]
  cases is : h.carriage t with
  | none =>
    have same : (takeLocalChange e t h).tx t = g.tx t ∧ (takeLocalChange e t h).carriage t = none := by
      rw [none' is]
      split
      · exact ⟨rfl, (carriages t).trans is⟩
      · exact ⟨(onlyCues_refresh e t _).tx t, ((onlyCues_refresh e t _).carriage t).trans ((carriages t).trans is)⟩
    rw [same.1]
    exact ⟨mode, state, enable, same.2, fun c own => absurd own.symm (Option.some_ne_none c)⟩
  | some c =>
    have carried := (carriages t).trans is
    rw [some' c is]
    split
    · next ending =>
      obtain ⟨mode', state', enable', gone, -⟩ := endCarriage_console (e := e) carried mode
      exact ⟨mode', state'.trans settled, enable'.trans enable, gone, fun d own live => by
        cases own; exact absurd ending live⟩
    · obtain ⟨mode', state', enable', gone, outcomes⟩ := endWith_console (e := e) .tookLocal carried mode
      exact ⟨mode', state'.trans settled, enable'.trans enable, gone, fun d own _ others => by
        cases own; exact outcomes (lists t ▸ others)⟩

end TakeLocal

end Sys2Proof.Machine
end


section
/-! The occurrences that GIVE REMOTE can adopt, in the order in which they are taken (R166): O45, its second part. -/

namespace Sys2Proof.Machine

/-! ## A stable sort -/

section Stable

variable {α : Type} (key : α → Nat) (R : α → α → Prop)

theorem insertBy_stable {x : α} {l : List α} (first : ∀ z ∈ l, R x z)
    (sorted : l.Pairwise fun y z => key y < key z ∨ (key y = key z ∧ R y z)) :
    (insertBy (fun y z => decide (key y < key z)) x l).Pairwise fun y z => key y < key z ∨ (key y = key z ∧ R y z) := by
  induction l with
  | nil => exact List.pairwise_singleton ..
  | cons y rest ih =>
    obtain ⟨least, tail⟩ := List.pairwise_cons.mp sorted
    unfold insertBy
    split
    · next before =>
      refine List.pairwise_cons.mpr ⟨fun z mem => ?_, ih (fun z mem => first z (List.mem_cons_of_mem y mem)) tail⟩
      rcases List.mem_cons.mp ((insertBy_perm _ x rest).subset mem) with rfl | old
      · exact .inl (of_decide_eq_true before)
      · exact least z old
    · next notBefore =>
      have le : ∀ z ∈ y :: rest, key x ≤ key z := by
        have head : key x ≤ key y := Nat.le_of_not_lt fun less => notBefore (decide_eq_true less)
        intro z mem
        rcases List.mem_cons.mp mem with rfl | old
        · exact head
        · exact head.trans ((least z old).elim Nat.le_of_lt fun same => Nat.le_of_eq same.1)
      refine List.pairwise_cons.mpr ⟨fun z mem => ?_, sorted⟩
      exact (Nat.lt_or_eq_of_le (le z mem)).imp_right fun same => ⟨same, first z mem⟩

/-- A list put in order of a key keeps, among items of one key, the order it had. -/
theorem sortBy_stable {l : List α} (ordered : l.Pairwise R) :
    (sortBy (fun y z => decide (key y < key z)) l).Pairwise fun y z => key y < key z ∨ (key y = key z ∧ R y z) := by
  induction l with
  | nil => exact List.Pairwise.nil
  | cons x rest ih =>
    obtain ⟨first, tail⟩ := List.pairwise_cons.mp ordered
    exact insertBy_stable key R (fun z mem => first z ((sortBy_perm _ rest).subset mem)) (ih tail)

end Stable

/-! ## What can be adopted (R166) -/

theorem candidate_iff (e : Env) (h : Hall) (t : Nat) (b : Booking) (d : Nat) : candidate e h t b d = true ↔
    b.state = .active ∧ b.fields.transmitter = t ∧ carriesDay h.calendar.entries b.fields d = true ∧
    startOn b.fields d ≤ e.now ∧ e.now < endOn b.fields d ∧
    ((∀ l, b.lastRun = some l → l < d) ∨ (b.lastRun = some d ∧ b.outcome = .tookLocal)) := by
  simp only [candidate, Bool.and_eq_true, Bool.or_eq_true, beq_iff_eq, decide_eq_true_eq, all_eq_true_iff, and_assoc]

/-- The setting that an occurrence asks of a column, its main antenna or its alternate (R166). -/
def wantedOn (e : Env) (b : Offered) (a : Nat) : Option Setting :=
  if a = b.antenna then some b.setting
  else if b.alternate = some a then some (alternateSetting (e.antConfig a) b.setting) else none

theorem wantedOn_iff (e : Env) (b : Offered) (a : Nat) (x : Setting) : wantedOn e b a = some x ↔
    (a = b.antenna ∧ x = b.setting) ∨
    (a ≠ b.antenna ∧ b.alternate = some a ∧ x = alternateSetting (e.antConfig a) b.setting) := by
  unfold wantedOn
  by_cases main : a = b.antenna
  · simp [main, eq_comm]
  · by_cases alternate : b.alternate = some a
    · simp [main, alternate, eq_comm]
    · simp [main, alternate]

theorem airedAsBooked_routed {e : Env} {h : Hall} {t : Nat} {b : Offered} {a : Nat} (route : rowRoute h t = some a) :
    airedAsBooked e h t b =
      if (h.antenna a).change = none ∧ (wantedOn e b a).isSome = true ∧ (h.antenna a).setting = wantedOn e b a ∧
          claimable e h t a = true ∧ (h.tx t).tuned = some b.frequency then (wantedOn e b a).map fun s => (a, s)
      else none := by
  simp only [airedAsBooked, route]
  refine if_congr ?_ rfl rfl
  simp only [Bool.and_eq_true, Option.isNone_iff_eq_none, decide_eq_true_eq, and_assoc]
  exact Iff.rfl

theorem airedAsBooked_iff (e : Env) (h : Hall) (t : Nat) (b : Offered) (a : Nat) (x : Setting) :
    airedAsBooked e h t b = some (a, x) ↔
      rowRoute h t = some a ∧ (h.antenna a).change = none ∧ (h.antenna a).setting = some x ∧
      claimable e h t a = true ∧ (h.tx t).tuned = some b.frequency ∧
      ((a = b.antenna ∧ x = b.setting) ∨
       (a ≠ b.antenna ∧ b.alternate = some a ∧ x = alternateSetting (e.antConfig a) b.setting)) := by
  rw [← wantedOn_iff]
  cases route : rowRoute h t with
  | none => simp only [airedAsBooked, route]; exact iff_of_false nofun fun claims => nomatch claims.1
  | some c =>
    rw [airedAsBooked_routed route, Option.ite_none_right_eq_some, Option.map_eq_some_iff, Option.some_inj]
    constructor
    · rintro ⟨⟨settled, -, setting, free, tuned⟩, y, wanted, same⟩
      obtain ⟨rfl, rfl⟩ := Prod.mk.inj same
      exact ⟨rfl, settled, setting.trans wanted, free, tuned, wanted⟩
    · rintro ⟨rfl, settled, setting, free, tuned, wanted⟩
      exact ⟨⟨settled, Option.isSome_of_eq_some wanted, setting.trans wanted.symm, free, tuned⟩, x, wanted, rfl⟩

/-- The occurrences of a booking that could be adopted (R166). -/
def adoptable (e : Env) (h : Hall) (t : Nat) (b : Booking) : List Adoption :=
  ((candidateDays e h b.fields.number).filter (candidate e h t b)).filterMap fun d =>
    (airedAsBooked e h t b.fields).map fun aired => { booking := b, day := d, antenna := aired.1, setting := aired.2 }

theorem mem_adoptable (e : Env) (h : Hall) (t : Nat) (b : Booking) (x : Adoption) : x ∈ adoptable e h t b ↔
    x.booking = b ∧ x.day ∈ candidateDays e h b.fields.number ∧ candidate e h t b x.day = true ∧
      airedAsBooked e h t b.fields = some (x.antenna, x.setting) := by
  obtain ⟨booking, day, antenna, setting⟩ := x
  simp only [adoptable, List.mem_filterMap, List.mem_filter, Option.map_eq_some_iff, Adoption.mk.injEq]
  constructor
  · rintro ⟨_, ⟨looked, fits⟩, ⟨_, _⟩, aired, rfl, rfl, rfl, rfl⟩
    exact ⟨rfl, looked, fits, aired⟩
  · rintro ⟨rfl, looked, fits, aired⟩
    exact ⟨day, ⟨looked, fits⟩, _, aired, rfl, rfl, rfl, rfl⟩

theorem adoptions_eq (e : Env) (h : Hall) (t : Nat) : adoptions e h t =
    if e.mode = .running ∧ (h.tx t).rfEnable = true ∧ e.rfPresent t = true then
      sortBy (fun x y => decide (startOn x.booking.fields x.day < startOn y.booking.fields y.day))
        (h.table.records.flatMap (adoptable e h t))
    else [] :=
  if_congr (by rw [Bool.and_eq_true, Bool.and_eq_true, decide_eq_true_eq, and_assoc]) rfl rfl

theorem mem_adoptions (e : Env) (h : Hall) (t : Nat) (x : Adoption) : x ∈ adoptions e h t ↔
    e.mode = .running ∧ (h.tx t).rfEnable = true ∧ e.rfPresent t = true ∧
    x.booking ∈ h.table.records ∧ x.day ∈ candidateDays e h x.booking.fields.number ∧
    candidate e h t x.booking x.day = true ∧ airedAsBooked e h t x.booking.fields = some (x.antenna, x.setting) := by
  simp only [adoptions_eq, List.mem_ite_nil_right, (sortBy_perm _ _).mem_iff, List.mem_flatMap, mem_adoptable, and_assoc]
  refine and_congr_right fun _ => and_congr_right fun _ => and_congr_right fun _ => ?_
  constructor
  · rintro ⟨b, record, rfl, rest⟩
    exact ⟨record, rest⟩
  · rintro ⟨record, rest⟩
    exact ⟨x.booking, record, rfl, rest⟩

/-- What can be adopted stands by start, and by booking number for one start (R166). -/
theorem adoptions_ordered (e : Env) {h : Hall} (t : Nat) (ok : CollectionsOk h) : (adoptions e h t).Pairwise fun x y =>
    startOn x.booking.fields x.day < startOn y.booking.fields y.day ∨
    (startOn x.booking.fields x.day = startOn y.booking.fields y.day ∧
      x.booking.fields.number ≤ y.booking.fields.number) := by
  obtain ⟨numbers, -⟩ := ok
  have byNumber : (h.table.records.flatMap (adoptable e h t)).Pairwise fun x y =>
      x.booking.fields.number ≤ y.booking.fields.number := by
    refine List.pairwise_flatMap.mpr ⟨fun r _ => List.pairwise_of_forall_mem_list fun x mem y mem' => ?_, ?_⟩
    · rw [((mem_adoptable e h t r x).mp mem).1, ((mem_adoptable e h t r y).mp mem').1]
    · refine (List.pairwise_map.mp numbers).imp fun {r r'} less x mem y mem' => ?_
      rw [((mem_adoptable e h t r x).mp mem).1, ((mem_adoptable e h t r' y).mp mem').1]
      exact Nat.le_of_lt less
  rw [adoptions_eq]
  split
  · exact sortBy_stable (fun x : Adoption => startOn x.booking.fields x.day) _ byNumber
  · exact List.Pairwise.nil

end Sys2Proof.Machine
end


section
/-! What an adoption makes of its transmitter, the record and the list of cues (R23, R44, R166): O45, its third part. -/

namespace Sys2Proof.Machine

/-! ## The cues of an adopted occurrence (R47, R166) -/

theorem plainCue_fields {c d : Cue} (same : plainCue d = plainCue c) :
    d.booking = c.booking ∧ d.day = c.day ∧ d.kind = c.kind := by
  have booking : (plainCue d).booking = (plainCue c).booking := congrArg Cue.booking same
  have day : (plainCue d).day = (plainCue c).day := congrArg Cue.day same
  have kind : (plainCue d).kind = (plainCue c).kind := congrArg Cue.kind same
  exact ⟨booking, day, kind⟩

/-- A cue of an occurrence that is taken stays in the list through a scan (R47). -/
theorem remake_taken (e : Env) (how : Nat → Remake) {h : Hall} {c : Cue} (mem : c ∈ h.lookahead.cues)
    (taken : ∀ d ∈ h.lookahead.cues, d.booking = c.booking → d.day = c.day → d.kind ≠ .prepare ∧ d.carry = false)
    (booked : (h.booking c.booking).isSome = true) :
    ∃ d ∈ (remake e how h).lookahead.cues, d.booking = c.booking ∧ d.day = c.day ∧ d.kind = c.kind := by
  by_cases no : h.matrix.survey = none
  · obtain ⟨b, found⟩ := Option.isSome_iff_exists.mp booked
    have current : { c with transmitter := b.fields.transmitter } ∈ currentCues h :=
      (mem_currentCues h _).mpr ⟨c, mem, b, found, rfl⟩
    have isTaken' : isTaken (currentCues h) c.booking c.day = true := by
      refine (isTaken_iff _ _ _).mpr fun d listed number day => ?_
      obtain ⟨old, stood, _, _, rfl⟩ := (mem_currentCues h d).mp listed
      exact taken old stood number day
    have kept : { c with transmitter := b.fields.transmitter } ∈ keptCues how h :=
      List.mem_filter.mpr ⟨current, by rw [isTaken', Bool.true_or]⟩
    obtain ⟨d, listed, same⟩ := List.mem_map.mp
      ((remake_perm e how no).mem_iff.mpr (List.mem_map_of_mem (List.mem_append_left _ kept)))
    exact ⟨d, listed, plainCue_fields (c := { c with transmitter := b.fields.transmitter }) same⟩
  · rw [remake_survey no]
    exact ⟨c, mem, rfl, rfl, rfl⟩

section AdoptCues

variable (t : Nat) (b : Offered) (day : Nat) (said : Said) (cues : List Cue)

theorem adoptCues_eq : adoptCues t b day said cues =
    let rest := cues.filter fun c => !(c.isOf b.number day && c.isFirst)
    if ∃ c ∈ rest, c.booking = b.number ∧ c.day = day ∧ c.kind = .stop then rest
    else sortBy Cue.before (rest ++
      [{ kind := .stop, due := endOn b day, transmitter := t, booking := b.number, day := day, lead := 0, lateness := 0
         clamped := false, carry := false, said := said }]) :=
  if_congr (by simp only [List.any_eq_true, Cue.isOf, Bool.and_eq_true, beq_iff_eq, and_assoc]) rfl rfl

theorem adoptCues_stop : ∃ c ∈ adoptCues t b day said cues, c.booking = b.number ∧ c.day = day ∧ c.kind = .stop := by
  rw [adoptCues_eq]
  dsimp only
  split
  · next stands => exact stands
  · exact ⟨_, (sortBy_perm _ _).mem_iff.mpr (List.mem_append_right _ List.mem_cons_self), rfl, rfl, rfl⟩

/-- The first cue of an adopted occurrence is gone (R166). -/
theorem adoptCues_taken {c : Cue} (mem : c ∈ adoptCues t b day said cues) (number : c.booking = b.number)
    (on : c.day = day) : c.kind ≠ .prepare ∧ c.carry = false := by
  have filtered {c : Cue} (mem : c ∈ cues.filter fun c => !(c.isOf b.number day && c.isFirst))
      (number : c.booking = b.number) (on : c.day = day) : c.kind ≠ .prepare ∧ c.carry = false := by
    obtain ⟨-, notFirst⟩ := List.mem_filter.mp mem
    simpa [Cue.isOf, Cue.isFirst, number, on] using notFirst
  rw [adoptCues_eq] at mem
  dsimp only at mem
  split at mem
  · exact filtered mem number on
  · rcases List.mem_append.mp ((sortBy_perm _ _).mem_iff.mp mem) with old | new
    · exact filtered old number on
    · rw [List.mem_singleton.mp new]
      exact ⟨nofun, rfl⟩

end AdoptCues

/-! ## SET POWER and a claim, as an adoption asks for them (R76, R103) -/

/-- A field other than the powers is left by SET POWER (R103). -/
theorem setPower_leaves {α : Type} (field : Tx → α) (e : Env) (t power : Nat) (h : Hall)
    (leaves : ∀ (x : Tx) (p : Option Nat) (w : Option WaitingRfOn), field { x with power := p, rfOn := w } = field x)
    (u : Nat) : field ((setPower e t power h).tx u) = field (h.tx u) := by
  have kept := setTx_leaves field h t u
    (fun x => { x with power := some power, rfOn := x.rfOn.map fun w => { w with power := power } }) fun x => leaves x _ _
  rw [setPower_eq]
  dsimp only
  split
  · split
    · rw [sendTx_tx]
      exact kept
    · exact kept
  · rfl

/-- A column that is claimable is claimed (R76). -/
theorem grantClaim_claimable {e : Env} {t a : Nat} {h : Hall} (lt : a < 25) (free : claimable e h t a = true) :
    (grantClaim e t a h).claim a = some t := by
  by_cases held : h.claim a = some t
  · rw [grantClaim_kept e t a h (.inr held)]
    exact held
  · have granted : claimAnswer e h t a = none := by
      rw [claimAnswer, if_neg held]
      exact Option.isNone_iff_eq_none.mp free
    rw [grantClaim_moves granted held]
    exact claim_setClaim_same _ a _ lt

/-! ## An adoption, part by part (R166) -/

section Adopt

variable (e : Env) (t : Nat) (x : Adoption) (h : Hall)

/-- The outcome of an adopted occurrence (R166). -/
def adoptedOutcome (x : Adoption) : RunOutcome := if x.antenna != x.booking.fields.antenna then .substituted else .late

theorem adoptedOutcome_eq (x : Adoption) :
    adoptedOutcome x = if x.antenna ≠ x.booking.fields.antenna then .substituted else .late :=
  if_congr bne_iff_ne rfl rfl

/-- The carriage of an adopted occurrence (R166; log 56). -/
def adoptedCarriage : Carriage :=
  let b := x.booking.fields
  let said := saidOf h b.number x.day
  { newCarriage e t b { booking := b.number, day := x.day, lead := 0, said := said } x.antenna x.setting with
    phase := .onAir, aired := true, lateSeconds := min (e.now - startOn b x.day) 65535, outcome := adoptedOutcome x
    said := { said with late := true } }

/-- The hall in which an adopted occurrence has its claim, carriage and outcome (R23, R166). -/
def adoptionRecorded : Hall :=
  writeOutcome x.booking.fields.number (adoptedOutcome x) (setLastRun x.booking.fields.number x.day
    ((grantClaim e t x.antenna h).setCarriage t (some (adoptedCarriage e t x h))))

/-- The hall in which the cues of an adopted occurrence are those of one on air, LATE posted when new (R166; log 71). -/
def adoptionListed : Hall :=
  let said := saidOf h x.booking.fields.number x.day
  let recorded := adoptionRecorded e t x h
  let posted := if said.late = true then recorded else post e .late x.booking.fields.number recorded
  posted.mapLookahead fun l =>
    { l with cues := adoptCues t x.booking.fields x.day said l.cues
             readmit := l.readmit.filter fun o => !(o.booking == x.booking.fields.number && o.day == x.day) }

/-- The hall in which an adopted transmitter has the power of the booking asked for (R166). -/
def adoptionPowered : Hall :=
  if ((adoptionListed e t x h).tx t).power = some x.booking.fields.power then adoptionListed e t x h
  else setPower e t x.booking.fields.power (adoptionListed e t x h)

theorem adopt_eq : adopt e t x h = refresh e t (carriageOpened t (adoptionPowered e t x h)) := rfl

/-- Up to the power, an adoption changes the claim, the carriage, the table, the attention and the list of cues. -/
theorem adoptionListed_frame : adoptionListed e t x h =
    { h with matrix := (grantClaim e t x.antenna h).matrix, carriages := write h.carriages t (some (adoptedCarriage e t x h))
             table := (adoptionRecorded e t x h).table, attention := (adoptionListed e t x h).attention
             lookahead := (adoptionListed e t x h).lookahead } := by
  unfold adoptionListed adoptionRecorded
  rw [grantClaim_frame]
  dsimp only
  split <;> rfl

theorem adoptionListed_cues : (adoptionListed e t x h).lookahead.cues =
    adoptCues t x.booking.fields x.day (saidOf h x.booking.fields.number x.day) h.lookahead.cues := by
  unfold adoptionListed adoptionRecorded
  rw [grantClaim_frame]
  dsimp only
  split <;> rfl

theorem adoptionListed_tx (u : Nat) : (adoptionListed e t x h).tx u = h.tx u := by
  rw [adoptionListed_frame]
  rfl

theorem adoptionListed_records : (adoptionListed e t x h).table.records =
    h.table.records.map fun r => if r.fields.number = x.booking.fields.number then
      { r with lastRun := some (max x.day (r.lastRun.getD 0)), outcome := adoptedOutcome x } else r := by
  have granted : (grantClaim e t x.antenna h).table = h.table := by rw [grantClaim_frame]
  rw [adoptionListed_frame]
  unfold adoptionRecorded writeOutcome setLastRun
  dsimp only
  rw [mapBooking_records, mapBooking_records, List.map_map]
  rw [show ((grantClaim e t x.antenna h).setCarriage t (some (adoptedCarriage e t x h))).table = h.table from granted]
  refine List.map_congr_left fun r _ => ?_
  by_cases own : r.fields.number = x.booking.fields.number <;> simp [own]

theorem adoptionPowered_frame : adoptionPowered e t x h =
    { adoptionListed e t x h with txs := (adoptionPowered e t x h).txs, orders := (adoptionPowered e t x h).orders } := by
  unfold adoptionPowered
  split
  · rfl
  · exact setPower_frame e t _ _

theorem adoptionPowered_leaves {α : Type} (field : Tx → α)
    (leaves : ∀ (x : Tx) (p : Option Nat) (w : Option WaitingRfOn), field { x with power := p, rfOn := w } = field x) :
    field ((adoptionPowered e t x h).tx t) = field (h.tx t) := by
  rw [← adoptionListed_tx e t x h t]
  unfold adoptionPowered
  split
  · rfl
  · exact setPower_leaves field e t _ _ leaves t

/-- Beside transmitters and orders, the hall before the refresh is the one with the cues put in (R166). -/
theorem carriageOpened_frame : carriageOpened t (adoptionPowered e t x h) =
    { adoptionListed e t x h with txs := (carriageOpened t (adoptionPowered e t x h)).txs
                                  orders := (adoptionPowered e t x h).orders } := by
  unfold carriageOpened
  rw [adoptionPowered_frame]
  rfl

/-! ## An adoption (R166) -/

theorem adopt_carriage (lt : t < 12) : (adopt e t x h).carriage t = some (adoptedCarriage e t x h) := by
  rw [adopt_eq, (onlyCues_refresh e t _).carriage t, carriageOpened_frame, adoptionListed_frame]
  exact read_write_same h.carriages t _ lt

theorem adopt_claim {a : Nat} : (adopt e t x h).claim a = (grantClaim e t x.antenna h).claim a := by
  rw [adopt_eq, (onlyCues_refresh e t _).claim a, carriageOpened_frame, adoptionListed_frame]
  rfl

theorem adopt_tx (lt : t < 12) :
    (adopt e t x h).tx t = { (adoptionPowered e t x h).tx t with state := .serving } := by
  rw [adopt_eq, (onlyCues_refresh e t _).tx t]
  exact tx_setTx_same _ t _ lt

theorem adopt_rfEnable (lt : t < 12) : ((adopt e t x h).tx t).rfEnable = (h.tx t).rfEnable := by
  rw [adopt_tx e t x h lt]
  exact adoptionPowered_leaves e t x h Tx.rfEnable fun _ _ _ => rfl

theorem adopt_mode (lt : t < 12) : ((adopt e t x h).tx t).mode = (h.tx t).mode := by
  rw [adopt_tx e t x h lt]
  exact adoptionPowered_leaves e t x h Tx.mode fun _ _ _ => rfl

theorem adopt_records : (adopt e t x h).table.records =
    h.table.records.map fun r => if r.fields.number = x.booking.fields.number then
      { r with lastRun := some (max x.day (r.lastRun.getD 0)), outcome := adoptedOutcome x } else r := by
  rw [adopt_eq, table_of_books (refresh_books ..), carriageOpened_frame]
  exact adoptionListed_records e t x h

/-- The STOP of an adopted occurrence is in the list (R44, R166). -/
theorem adopt_stop (record : x.booking ∈ h.table.records) : ∃ c ∈ (adopt e t x h).lookahead.cues,
    c.booking = x.booking.fields.number ∧ c.day = x.day ∧ c.kind = .stop := by
  have opened := carriageOpened_frame e t x h
  have cues : (carriageOpened t (adoptionPowered e t x h)).lookahead.cues = _ :=
    (congrArg (·.lookahead.cues) opened).trans (adoptionListed_cues e t x h)
  have records : (carriageOpened t (adoptionPowered e t x h)).table.records = _ :=
    (congrArg (·.table.records) opened).trans (adoptionListed_records e t x h)
  have booked : ((carriageOpened t (adoptionPowered e t x h)).booking x.booking.fields.number).isSome = true := by
    rw [booking_isSome_iff, records]
    exact ⟨_, List.mem_map_of_mem record, by rw [if_pos rfl]⟩
  rw [adopt_eq]
  unfold refresh scan
  generalize carriageOpened t (adoptionPowered e t x h) = g at *
  obtain ⟨c, mem, number, day, kind⟩ := adoptCues_stop t x.booking.fields x.day
    (saidOf h x.booking.fields.number x.day) h.lookahead.cues
  rw [← cues] at mem
  rw [← number, ← day, ← kind]
  refine remake_taken e _ mem (fun d listed same on => ?_) (by rw [number]; exact booked)
  rw [cues] at listed
  exact adoptCues_taken t x.booking.fields x.day _ _ listed (same.trans number) (on.trans day)

end Adopt

end Sys2Proof.Machine
end


section
/-! GIVE REMOTE of a transmitter: R97 tested, an occurrence adopted or RF taken down (R97, R166): O45. -/

namespace Sys2Proof.Machine

section GiveRemote

variable (e : Env) (k : Nat) (h : Hall)

/-- What R97 leaves of a transmitter: the hall as it was, or what an RF OFF request makes of it (R97, R100). -/
theorem enforceOne_either : enforceOne e k h = h ∨
    ((enforceOne e k h).tx k = (rfOff e k h).tx k ∧ (enforceOne e k h).orders = (rfOff e k h).orders) := by
  rw [enforceOne_eq]
  split
  · split
    · exact .inr ⟨rfl, rfl⟩
    · exact .inr ⟨rfl, rfl⟩
  · exact .inl rfl

/-- A transmitter in REMOTE without a route request (R75, R166). -/
def remoteTaken : Hall := withdrawRoute k (h.setTx k fun x => { x with mode := .remote })

/-- A transmitter given up by LOCAL, with RF enable tested and nothing adopted yet (R97, R166). -/
def givenUp : Hall := enforceOne e k ((remoteTaken k h).setTx k fun x => { x with state := .idle })

/-- A transmitter given up by LOCAL with nothing adopted (R166). -/
def givenIdle : Hall := if rowLive e (givenUp e k h) k then rfOff e k (givenUp e k h) else givenUp e k h

variable {k} (lt : k < 12)

include lt

theorem remoteTaken_tx : (remoteTaken k h).tx k = { h.tx k with mode := .remote } := tx_setTx_same h k _ lt

theorem giveRemoteChange_stays (other : (h.tx k).state ≠ .console) : giveRemoteChange e k h = remoteTaken k h := by
  have state : ((remoteTaken k h).tx k).state ≠ .console := by
    rw [remoteTaken_tx h lt]
    exact other
  exact if_neg state

theorem giveRemoteChange_givesUp (console : (h.tx k).state = .console) :
    giveRemoteChange e k h = giveUp e k (remoteTaken k h) := by
  have state : ((remoteTaken k h).tx k).state = .console := by
    rw [remoteTaken_tx h lt]
    exact console
  exact if_pos state

theorem giveRemoteChange_adopts (console : (h.tx k).state = .console) {x : Adoption} {rest : List Adoption}
    (found : adoptions e (givenUp e k h) k = x :: rest) : giveRemoteChange e k h = adopt e k x (givenUp e k h) := by
  rw [giveRemoteChange_givesUp e h lt console]
  unfold givenUp at found ⊢
  simp only [giveUp, found]

theorem giveRemoteChange_idles (console : (h.tx k).state = .console) (none' : adoptions e (givenUp e k h) k = []) :
    giveRemoteChange e k h = refresh e k (givenIdle e k h) := by
  rw [giveRemoteChange_givesUp e h lt console]
  unfold givenIdle
  unfold givenUp at none' ⊢
  simp only [giveUp, none']

/-- A transmitter given up is REMOTE and IDLE, and its RF enable is kept or it is sent RF OFF (R97, R166). -/
theorem givenUp_facts : ((givenUp e k h).tx k).mode = .remote ∧ ((givenUp e k h).tx k).state = .idle ∧
    (givenUp e k h).carriages = h.carriages ∧
    ((h.tx k).rfEnable = true → (e.txConfig k).present = true →
      ((givenUp e k h).tx k).rfEnable = true ∨ .rfOff k ∈ (givenUp e k h).orders) := by
  have idle : ((remoteTaken k h).setTx k fun x => { x with state := .idle }).tx k =
      { h.tx k with mode := .remote, state := .idle } :=
    (tx_setTx_same _ k _ lt).trans (congrArg (fun x : Tx => { x with state := .idle }) (remoteTaken_tx h lt))
  have carriages : (givenUp e k h).carriages = h.carriages := by
    unfold givenUp
    rw [enforceOne_frame]
    rfl
  rcases enforceOne_either e k ((remoteTaken k h).setTx k fun x => { x with state := .idle }) with same | ⟨tx, orders⟩
  · have tx : (givenUp e k h).tx k = _ := (congrArg (Hall.tx · k) same).trans idle
    rw [tx]
    exact ⟨rfl, rfl, carriages, fun on _ => .inl on⟩
  · have off : (givenUp e k h).tx k = _ := tx.trans (rfOff_tx _ lt)
    rw [off, idle]
    refine ⟨rfl, rfl, carriages, fun _ present => .inr ?_⟩
    rw [show (givenUp e k h).orders = _ from orders]
    exact rfOff_sent _ present

/-- With nothing to adopt RF enable is withdrawn, and RF OFF is sent where RF could be on (R166). -/
theorem givenIdle_facts : ((givenIdle e k h).tx k).mode = .remote ∧ ((givenIdle e k h).tx k).state = .idle ∧
    ((givenIdle e k h).tx k).rfEnable = false ∧ (givenIdle e k h).carriages = h.carriages ∧
    ((e.txConfig k).present = true → (h.tx k).rfEnable = true ∨ e.rfPresent k = true →
      .rfOff k ∈ (givenIdle e k h).orders) := by
  obtain ⟨mode, state, carriages, sent⟩ := givenUp_facts e h lt
  by_cases live : rowLive e (givenUp e k h) k = true
  · have off : givenIdle e k h = rfOff e k (givenUp e k h) := if_pos live
    rw [off, rfOff_tx _ lt]
    refine ⟨mode, state, rfl, ?_, fun present _ => rfOff_sent _ present⟩
    rw [rfOff_frame]
    exact carriages
  · have kept : givenIdle e k h = givenUp e k h := if_neg live
    rw [rowLive_iff, not_or] at live
    obtain ⟨dark, silent⟩ := live
    rw [kept]
    refine ⟨mode, state, Bool.eq_false_iff.mpr dark, carriages, fun present could => ?_⟩
    exact (sent (could.resolve_right silent) present).resolve_left dark

theorem giveRemoteChange_mode : ((giveRemoteChange e k h).tx k).mode = .remote := by
  by_cases console : (h.tx k).state = .console
  · cases found : adoptions e (givenUp e k h) k with
    | nil =>
      rw [giveRemoteChange_idles e h lt console found, (onlyCues_refresh e k _).tx k]
      exact (givenIdle_facts e h lt).1
    | cons x rest =>
      rw [giveRemoteChange_adopts e h lt console found, adopt_mode e k x _ lt]
      exact (givenUp_facts e h lt).1
  · rw [giveRemoteChange_stays e h lt console, remoteTaken_tx h lt]

theorem giveRemoteChange_held (held : (h.tx k).state = .held) : ((giveRemoteChange e k h).tx k).state = .held := by
  rw [giveRemoteChange_stays e h lt (by rw [held]; decide), remoteTaken_tx h lt]
  exact held

theorem giveRemoteChange_empty (console : (h.tx k).state = .console) (none' : adoptions e (givenUp e k h) k = []) :
    ((giveRemoteChange e k h).tx k).state = .idle ∧ ((giveRemoteChange e k h).tx k).rfEnable = false ∧
    (giveRemoteChange e k h).carriages = h.carriages ∧
    ((e.txConfig k).present = true → (h.tx k).rfEnable = true ∨ e.rfPresent k = true →
      .rfOff k ∈ (giveRemoteChange e k h).orders) := by
  obtain ⟨-, state, dark, carriages, sent⟩ := givenIdle_facts e h lt
  have only := onlyCues_refresh e k (givenIdle e k h)
  have frame : refresh e k (givenIdle e k h) = _ := only
  rw [giveRemoteChange_idles e h lt console none', only.tx k]
  refine ⟨state, dark, ?_, fun present could => ?_⟩
  · rw [frame]
    exact carriages
  · rw [frame]
    exact sent present could

end GiveRemote

/-! ## An adoption (R166) -/

theorem adoptedCarriage_eq (e : Env) (t : Nat) (x : Adoption) (h : Hall) : adoptedCarriage e t x h =
    { booking := x.booking.fields.number, day := x.day, start := startOn x.booking.fields x.day
      stop := endOn x.booking.fields x.day, antenna := x.antenna, setting := x.setting
      frequency := x.booking.fields.frequency, power := x.booking.fields.power, lead := 0, phase := .onAir
      routeDone := false, tuneDone := false, settingDone := false
      substituted := decide (x.antenna ≠ x.booking.fields.antenna), tripUsed := false, aired := true
      lateSeconds := min (e.now - startOn x.booking.fields x.day) 65535, breakBegan := none
      outcome := adoptedOutcome x
      said := { late := true, clamped := (saidOf h x.booking.fields.number x.day).clamped } } := by
  rw [← bne_eq_decide_ne]
  rfl

/-- What is adopted airs on a column that the transmitter can claim (R166). -/
theorem adopt_claimed {e : Env} {t : Nat} {x : Adoption} {h : Hall}
    (aired : airedAsBooked e h t x.booking.fields = some (x.antenna, x.setting)) :
    (adopt e t x h).claim x.antenna = some t := by
  obtain ⟨route, -, -, free, -⟩ := (airedAsBooked_iff e h t x.booking.fields x.antenna x.setting).mp aired
  obtain ⟨column, -⟩ := (rowRoute_iff h t x.antenna).mp route
  rw [adopt_claim]
  exact grantClaim_claimable column free

/-- Settles O45: each command by its refusals, TAKE LOCAL by the carriage, and GIVE REMOTE by what there is to adopt. -/
theorem localAndHeldTransitions : Obligations.LocalAndHeldTransitions := by
  unfold Obligations.LocalAndHeldTransitions
  refine ⟨fun s tag k yes => ⟨takeLocal_made yes k, fun no => giveRemote_made yes no k, clearHeld_made yes k⟩,
    fun e k h lt => ⟨⟨clearHeldChange_tx e h lt, by rw [clearHeldChange_monitor e h lt]⟩, ?changes⟩,
    fun e t h => ⟨mem_adoptions e h t, adoptions_ordered e t, candidate_iff e h t, airedAsBooked_iff e h t⟩, ?adopts⟩
  case changes =>
    obtain ⟨mode, state, enable, gone, outcomes⟩ := takeLocalChange_facts e h lt
    exact ⟨mode, state, enable, gone, outcomes, giveRemoteChange_mode e h lt, giveRemoteChange_held e h lt, fun console =>
      ⟨giveRemoteChange_empty e h lt console, fun x rest => giveRemoteChange_adopts e h lt console⟩⟩
  case adopts =>
    intro e t x h lt mem
    obtain ⟨-, enabled, -, record, -, -, aired⟩ := (mem_adoptions e h t x).mp mem
    dsimp only
    rw [← adoptedOutcome_eq, ← adoptedCarriage_eq]
    exact ⟨adopt_carriage e t x h lt, adopt_claimed aired, by rw [adopt_tx e t x h lt],
      (adopt_rfEnable e t x h lt).trans enabled, adopt_records e t x h, adopt_stop e t x h record⟩

end Sys2Proof.Machine
end


section
/-! A carriage on air: its entry, INTERLOCK, START and STOP, the pass to a carry-over, and occurrences that wait (R121 to
R127, R139, R140, R143): O52. -/

namespace Sys2Proof.Machine

/-! ## ON_AIR (R121) -/

/-- The late seconds of a carriage whose RF comes present now (R121, R130; logs 55 and 56). -/
def Carriage.lateOnAir (c : Carriage) (now : Nat) : Nat :=
  min (match c.breakBegan with
    | none => now - c.start
    | some b => c.lateSeconds + (now - b)) 65535

/-- The outcome with which a carriage goes ON_AIR (R121). -/
def Carriage.outcomeOnAir (c : Carriage) (now : Nat) : RunOutcome :=
  if c.substituted then .substituted else if 0 < c.lateOnAir now then .late else .aired

/-- A carriage as it goes ON_AIR (R121). -/
def Carriage.gone (c : Carriage) (now : Nat) : Carriage :=
  { c with phase := .onAir, lateSeconds := c.lateOnAir now, breakBegan := none, aired := true
           outcome := c.outcomeOnAir now
           said := { c.said with late := c.said.late || decide (0 < c.lateOnAir now) } }

section OnAir

variable (e : Env) (t : Nat) (c : Carriage) (h : Hall)

/-- The entry into ON_AIR: the carriage, the outcome written, and LATE posted when it is new (R121). -/
theorem enterOnAir_eq : enterOnAir e t c h =
    let recorded := writeOutcome c.booking (c.outcomeOnAir e.now) (h.setCarriage t (some (c.gone e.now)))
    if 0 < c.lateOnAir e.now ∧ c.said.late = false then post e .late c.booking recorded else recorded := by
  have marked : (c.said.late || (decide (0 < c.lateOnAir e.now) && !c.said.late)) =
      (c.said.late || decide (0 < c.lateOnAir e.now)) := by
    cases c.said.late <;> simp
  have posted : (decide (0 < c.lateOnAir e.now) && !c.said.late) = true ↔
      0 < c.lateOnAir e.now ∧ c.said.late = false := by
    rw [Bool.and_eq_true, decide_eq_true_eq, Bool.not_eq_true']
  unfold Carriage.gone
  rw [← marked]
  exact if_congr posted rfl rfl

theorem enterOnAir_carriage (row : t < 12) : (enterOnAir e t c h).carriage t = some (c.gone e.now) := by
  have entered := carriage_setCarriage_same h t (some (c.gone e.now)) row
  rw [enterOnAir_eq]
  dsimp only
  split <;> exact entered

theorem enterOnAir_records : (enterOnAir e t c h).table.records = h.table.records.map fun r =>
    if r.fields.number = c.booking then { r with outcome := c.outcomeOnAir e.now } else r := by
  have written := mapBooking_records (h.setCarriage t (some (c.gone e.now))) c.booking
    fun r => { r with outcome := c.outcomeOnAir e.now }
  rw [enterOnAir_eq]
  dsimp only
  split <;> exact written

theorem enterOnAir_attention : (enterOnAir e t c h).attention =
    if 0 < c.lateOnAir e.now ∧ c.said.late = false then h.attention.post e.mask .late c.booking else h.attention := by
  rw [enterOnAir_eq]
  dsimp only
  split <;> rfl

/-- The clean-run timer starts on the conditions of R143. -/
theorem startCleanRun_eq : startCleanRun e t h =
    if (h.carriage t).any (fun c => c.phase == .onAir) = true ∧ (h.tx t).state = .serving ∧ e.rfPresent t = true ∧
        0 < (h.monitor t).tripCount then
      h.setMonitor t fun m => { m with cleanRun := some (e.timebase + e.config.hall.cleanRun * 60000) }
    else h := by
  refine if_congr ?_ rfl rfl
  rw [Bool.and_eq_true, Bool.and_eq_true, Bool.and_eq_true, decide_eq_true_eq, decide_eq_true_eq, and_assoc, and_assoc]

end OnAir

theorem Phase.live_iff (p : Phase) : p.live = true ↔ p = .keying ∨ p = .onAir := by
  cases p <;> simp [Phase.live]

/-! ## RF present, INTERLOCK, and the STOP of a carriage (R121 to R124, R139, R140, R143) -/

section Carried

variable {e : Env} {t : Nat} {c : Carriage} {h : Hall} (is : h.carriage t = some c)

include is

theorem takeReport_rfUp : takeReport e (.rfUp t) h =
    startCleanRun e t (if c.phase = .keying then enterOnAir e t c h else h) := by
  simp only [takeReport, onRfUp, is]

/-- The carriage's own RF ON failed: its route and its setting are asked for again (R121; log 8). -/
theorem takeReport_interlock_own : takeReport e (.interlock t .carriage) h =
    if c.phase = .keying then
      let again := { h.setCarriage t (some { c with phase := .working, routeDone := false, settingDone := false }) with
        keyAgain := if t ∈ h.keyAgain then h.keyAgain else h.keyAgain ++ [t] }
      askSetting e t c.antenna c.setting (askRoute t c.antenna again)
    else h := by
  have sentBack := carriage_setCarriage_same h t
    (some { c with phase := .working, routeDone := false, settingDone := false }) (carriage_some_lt is)
  simp only [takeReport, onInterlock, is, if_true, List.contains_iff_mem]
  exact if_congr Iff.rfl (askRouteAndSetting_some
    (c := { c with phase := .working, routeDone := false, settingDone := false }) sentBack) rfl

/-- Another's RF ON failed: a carriage that could be on air enters ENDING (R140). -/
theorem takeReport_interlock_other {who : Requester} (other : who ≠ .carriage) : takeReport e (.interlock t who) h =
    if c.phase = .keying ∨ c.phase = .onAir then endingForSent e t c.lost h else h := by
  simp only [takeReport, onInterlock, is, if_neg other]
  exact if_congr (Phase.live_iff c.phase) rfl rfl

/-- The STOP of a carriage, by its phase (R124, R126). -/
theorem stopCarriage_eq (due : Nat) (pass : Bool) : stopCarriage e t due pass h =
    match c.phase with
    | .onAir =>
      match if pass then passTarget h t due c else none with
      | some (x, b) => passOver e t c x b h
      | none => endAtStop e t c.outcome h
    | .keying | .rfDown => endAtStop e t c.lost h
    | .working | .ready => endWith e t c.lost h
    | .ending => h := by
  unfold stopCarriage
  revert is
  generalize h.carriage t = carried
  rintro rfl
  rfl

theorem enterEnding_eq (o : RunOutcome) :
    enterEnding e t o h = rfOff e t (h.setCarriage t (some { c with phase := .ending, outcome := o })) := by
  rw [enterEnding, Hall.mapCarriage, is]
  rfl

theorem enterKeying_eq :
    enterKeying e t h = rfOn e t c.power .carriage (h.setCarriage t (some { c with phase := .keying })) := by
  simp only [enterKeying, is]

end Carried

/-! ## Which carriage serves an occurrence (R123 to R127) -/

theorem serving_iff (h : Hall) (number day t : Nat) : serving h number day = some t ↔
    t < 12 ∧ (∃ c, h.carriage t = some c ∧ c.booking = number ∧ c.day = day) ∧
      ∀ u, u < t → ∀ d, h.carriage u = some d → ¬ (d.booking = number ∧ d.day = day) := by
  have serves (u : Nat) : ((h.carriage u).any fun c => c.booking == number && c.day == day) = true ↔
      ∃ c, h.carriage u = some c ∧ c.booking = number ∧ c.day = day := by
    simp only [Option.any_eq_true, Bool.and_eq_true, beq_iff_eq]
  simp only [serving, allRows, List.find?_range_eq_some, List.mem_range, Bool.not_eq_true',
    ← Bool.not_eq_true, serves, not_exists, not_and]
  exact ⟨fun ⟨own, row, first⟩ => ⟨row, own, first⟩, fun ⟨row, own, first⟩ => ⟨own, row, first⟩⟩

section Cues

variable {e : Env} {cue : Cue} {h : Hall}

theorem takeStart_unserved (no : serving h cue.booking cue.day = none) : takeStart e cue h = h := by
  simp only [takeStart, no]

/-- A START keys a READY carriage and no other (R123; logs 54 and 66). -/
theorem takeStart_served {t : Nat} {c : Carriage} (served : serving h cue.booking cue.day = some t)
    (is : h.carriage t = some c) : takeStart e cue h =
      if c.phase = .ready then rfOn e t c.power .carriage (h.setCarriage t (some { c with phase := .keying }))
      else h := by
  simp only [takeStart, served, enterKeying_eq is, is, Option.any_some, beq_iff_eq]

theorem takeStop_served {t : Nat} (served : serving h cue.booking cue.day = some t) :
    takeStop e cue h = stopCarriage e t cue.due true h := by
  simp only [takeStop, served]

theorem takeStop_unserved (no : serving h cue.booking cue.day = none) :
    takeStop e cue h = stopWaiting e cue.booking cue.day h := by
  simp only [takeStop, no]

theorem takeCarryStart_served {t : Nat} (served : serving h cue.booking cue.day = some t) :
    takeCarryStart e cue h = writeOutcome cue.booking .aired (setLastRun cue.booking cue.day h) := by
  simp only [takeCarryStart, served]

theorem takeCarryStart_unserved (no : serving h cue.booking cue.day = none) :
    takeCarryStart e cue h = takePrepare e { cue with lead := 0 } h := by
  simp only [takeCarryStart, no]

end Cues

/-! ## An occurrence that waits (R125) -/

/-- An entry of a waiting list is that of an occurrence. -/
def Waiting.isOf (number day : Nat) (w : Waiting) : Bool := w.booking == number && w.day == day

/-- The STOP takes the entry from the lowest waiting list that holds it, and settles it MISSED (R125; log 76). -/
theorem stopWaiting_waits (e : Env) {number day t : Nat} {h : Hall} (row : t < 12)
    (waits : (h.waitingList t).any (Waiting.isOf number day) = true)
    (first : ∀ u, u < t → (h.waitingList u).any (Waiting.isOf number day) = false) :
    stopWaiting e number day h = settleOutcome e number .missed
      (h.setWaiting t ((h.waitingList t).filter fun w => !Waiting.isOf number day w)) := by
  have found : (allRows.find? fun u => (h.waitingList u).any fun w => w.booking == number && w.day == day) = some t :=
    List.find?_range_eq_some.mpr ⟨waits, List.mem_range.mpr row, fun u less =>
      (Bool.not_eq_true' _).mpr (first u less)⟩
  simp only [stopWaiting, found]
  rfl

theorem stopWaiting_none (e : Env) {number day : Nat} {h : Hall}
    (none' : ∀ t, t < 12 → ∀ w ∈ h.waitingList t, ¬ (w.booking = number ∧ w.day = day)) :
    stopWaiting e number day h = h := by
  have found : (allRows.find? fun u => (h.waitingList u).any fun w => w.booking == number && w.day == day) = none := by
    refine List.find?_eq_none.mpr fun t mem => ?_
    simpa only [List.any_eq_true, Bool.and_eq_true, beq_iff_eq, not_exists] using
      fun w ⟨listed, its⟩ => none' t (mem_allRows.mp mem) w listed its
  simp only [stopWaiting, found]

/-! ## The pass to a carry-over (R126) -/

/-- What the pass asks of a cue, of its booking and of the plant (R126). -/
def CanPass (h : Hall) (t due : Nat) (c : Carriage) (x : Cue) (b : Booking) : Prop :=
  x.carry = true ∧ x.kind = .start ∧ x.transmitter = t ∧ x.due = due ∧
    h.booking x.booking = some b ∧ b.fields.antenna = c.antenna ∧ b.fields.setting = c.setting ∧
    b.fields.frequency = c.frequency ∧ (h.antenna c.antenna).suspect = false ∧
    (h.antenna c.antenna).lock = .free ∧ (h.tx t).state = .serving

section Target

variable {h : Hall} {t due : Nat} {c : Carriage}

/-- The pass looks for the first cue of the list, each with its booking, that it can take (R126). -/
def passBy (h : Hall) (t due : Nat) (c : Carriage) (x : Cue) : Option (Cue × Booking) :=
  if x.carry && x.kind == .start && x.transmitter == t && x.due == due then
    match h.booking x.booking with
    | none => none
    | some b =>
      if b.fields.antenna = c.antenna && b.fields.setting = c.setting && b.fields.frequency = c.frequency &&
          !(h.antenna c.antenna).suspect && (h.antenna c.antenna).lock = .free && (h.tx t).state = .serving
      then some (x, b)
      else none
  else none

theorem passTarget_eq : passTarget h t due c = h.lookahead.cues.findSome? (passBy h t due c) := rfl

theorem passBy_eq_some (x y : Cue) (b : Booking) :
    passBy h t due c x = some (y, b) ↔ x = y ∧ CanPass h t due c x b := by
  cases booked : h.booking x.booking with
  | none => simp [passBy, CanPass, booked]
  | some d =>
    simp only [passBy, CanPass, booked, Option.ite_none_right_eq_some, Bool.and_eq_true, beq_iff_eq, decide_eq_true_eq,
      Bool.not_eq_true', Option.some.injEq, Prod.mk.injEq]
    constructor
    · rintro ⟨cue, plant, rfl, rfl⟩
      tauto
    · rintro ⟨rfl, cue⟩
      obtain ⟨carry, kind, row, due', rfl, plant⟩ := cue
      tauto

theorem passTarget_some {x : Cue} {b : Booking} (target : passTarget h t due c = some (x, b)) :
    x ∈ h.lookahead.cues ∧ CanPass h t due c x b := by
  obtain ⟨y, mem, found⟩ := List.exists_of_findSome?_eq_some (passTarget_eq ▸ target)
  obtain ⟨rfl, can⟩ := (passBy_eq_some y x b).mp found
  exact ⟨mem, can⟩

theorem passTarget_none (target : passTarget h t due c = none) (x : Cue) (b : Booking) :
    ¬ (x ∈ h.lookahead.cues ∧ CanPass h t due c x b) := by
  rintro ⟨mem, can⟩
  have missed := List.findSome?_eq_none_iff.mp (passTarget_eq ▸ target) x mem
  rw [(passBy_eq_some x x b).mpr ⟨rfl, can⟩] at missed
  exact absurd missed nofun

end Target

/-- A carriage that has passed to the occurrence of a carry START (R126). -/
def Carriage.passed (c : Carriage) (x : Cue) (b : Booking) : Carriage :=
  { c with booking := x.booking, day := x.day, start := startOn b.fields x.day, stop := endOn b.fields x.day
           power := b.fields.power, lead := 0, substituted := false, tripUsed := false, breakBegan := none
           lateSeconds := 0, outcome := .aired, said := x.said }

section PassOver

variable (e : Env) (t : Nat) (c : Carriage) (x : Cue) (b : Booking) (h : Hall)

/-- The hall in which the outgoing outcome is settled and the carriage has its new occurrence and power (R126). -/
def occurrencePassed : Hall :=
  let taken := (settleOutcome e c.booking c.outcome h).setCarriage t (some (c.passed x b))
  if b.fields.power = c.power then taken else setPower e t b.fields.power taken

theorem serviceKeeps_passOver : ServiceKeeps (occurrencePassed e t c x b h) (passOver e t c x b h) :=
  (ServiceKeeps.serviceOver e t c.booking _).trans (.scan e [t] _)

/-- Up to the power, a pass settles the outgoing outcome and changes its carriage (R126). -/
theorem occurrencePassed_frame : occurrencePassed e t c x b h =
    { settleOutcome e c.booking c.outcome h with
      carriages := (h.setCarriage t (some (c.passed x b))).carriages
      txs := (occurrencePassed e t c x b h).txs, orders := (occurrencePassed e t c x b h).orders } := by
  unfold occurrencePassed
  dsimp only
  split
  · rw [settleOutcome_frame]
    rfl
  · rw [setPower_frame, settleOutcome_frame]
    rfl

theorem occurrencePassed_rfEnable : ((occurrencePassed e t c x b h).tx t).rfEnable = (h.tx t).rfEnable := by
  have settled : ((settleOutcome e c.booking c.outcome h).setCarriage t (some (c.passed x b))).tx t = h.tx t := by
    rw [settleOutcome_frame]
    rfl
  unfold occurrencePassed
  dsimp only
  split
  · rw [settled]
  · rw [setPower_leaves Tx.rfEnable e t _ _ (fun _ _ _ => rfl) t, settled]

theorem passOver_frame : passOver e t c x b h = { passOver e t c x b h with
    carriages := (h.setCarriage t (some (c.passed x b))).carriages, matrix := h.matrix
    txs := (occurrencePassed e t c x b h).txs } := by
  rw [(serviceKeeps_passOver e t c x b h).frame, occurrencePassed_frame, settleOutcome_frame]

theorem passOver_carriage (row : t < 12) : (passOver e t c x b h).carriage t = some (c.passed x b) := by
  rw [passOver_frame]
  exact carriage_setCarriage_same h t (some (c.passed x b)) row

theorem passOver_carriage_ne {u : Nat} (ne : u ≠ t) : (passOver e t c x b h).carriage u = h.carriage u := by
  rw [passOver_frame]
  exact carriage_setCarriage_ne h t u (some (c.passed x b)) ne

theorem passOver_matrix : (passOver e t c x b h).matrix = h.matrix := by rw [passOver_frame]

/-- RF stays as it is while a carriage passes to a carry-over (R126). -/
theorem passOver_rfEnable : ((passOver e t c x b h).tx t).rfEnable = (h.tx t).rfEnable := by
  rw [passOver_frame]
  exact occurrencePassed_rfEnable e t c x b h

theorem passOver_outcomes : OutcomesOf c.booking c.outcome (passOver e t c x b h) := by
  refine (serviceKeeps_passOver e t c x b h).outcomes _ _ ?_
  rw [occurrencePassed_frame]
  exact settleOutcome_outcomes e c.booking c.outcome h

end PassOver

/-- Settles O52: the entry into ON_AIR, each INTERLOCK, START and STOP by the carriage's phase, the pass by what it asks,
and the waiting lists. -/
theorem onAirStartAndStop : Obligations.OnAirStartAndStop := by
  unfold Obligations.OnAirStartAndStop
  refine ⟨fun e t c h row =>
      ⟨enterOnAir_carriage e t c h row, enterOnAir_records e t c h, enterOnAir_attention e t c h⟩,
    ⟨fun e t c h is =>
        ⟨takeReport_rfUp is, takeReport_interlock_own is, fun who => takeReport_interlock_other is⟩,
      startCleanRun_eq⟩,
    ⟨fun e t due pass c h is => stopCarriage_eq is due pass, fun e t c o h row is => ?ending, serving_iff,
      fun e cue h => takeStart_unserved, fun e cue t c h => takeStart_served⟩,
    ⟨fun h t due c => ⟨fun x b => passTarget_some, passTarget_none⟩, fun e t c x b h row => ?passes⟩,
    fun e cue h => ⟨fun t => takeStop_served, takeStop_unserved⟩,
    fun e number day t h row => stopWaiting_waits e row, fun e number day h => stopWaiting_none e,
    fun e cue h => ⟨fun t => takeCarryStart_served, takeCarryStart_unserved⟩⟩
  case ending =>
    obtain ⟨carried, dark, -⟩ := enterEnding_facts (e := e) is o
    exact ⟨enterEnding_eq is o, carried, dark⟩
  case passes =>
    exact ⟨passOver_carriage e t c x b h row, fun u => passOver_carriage_ne e t c x b h, passOver_matrix e t c x b h,
      passOver_rfEnable e t c x b h, passOver_outcomes e t c x b h⟩

end Sys2Proof.Machine
end

section
/-! Detector conversions, evaluations, the trip and the warning decision (R134 to R138): O49. -/

namespace Sys2Proof.Machine

/-! ## A detector conversion (R134) -/

theorem any_live_iff (o : Option Carriage) :
    o.any (·.phase.live) = true ↔ ∃ c ∈ o.toList, c.phase = .keying ∨ c.phase = .onAir := by
  cases o with
  | none => simp
  | some c => simp [Phase.live_iff]

theorem isEvaluation_iff (e : Env) (h : Hall) (t vf : Nat) : isEvaluation e h t vf = true ↔
    (e.txConfig t).present = true ∧ (∃ c ∈ (h.carriage t).toList, c.phase = .keying ∨ c.phase = .onAir) ∧
      (h.tx t).state = .serving ∧ e.config.hall.floor ≤ vf := by
  unfold isEvaluation
  rw [Bool.and_eq_true, Bool.and_eq_true, Bool.and_eq_true, any_live_iff, beq_iff_eq, decide_eq_true_eq, and_assoc,
    and_assoc]

theorem exec_detectorConversion {s : State} (on : s.power = .running) (k : Nat) (vf vr : BitVec 10) :
    let e := { s.env with inputs := { s.env.inputs with pairs := write s.env.inputs.pairs k (vf, vr) } }
    exec (.detectorConversion k vf vr) s = .next (State.act { s with env := e } (convert e k vf.toNat vr.toNat)) :=
  congrArg _ (event_running on)

/-! ## The reflection of a pair of codes (R135) -/

theorem reflection_le (vf vr : Nat) : reflection vf vr ≤ 1023 := Nat.min_le_right _ _

theorem reflection_full {vf vr : Nat} (forward : 0 < vf) (all : vf ≤ vr) : reflection vf vr = 1023 := by
  refine Nat.min_eq_right ((Nat.le_div_iff_mul_le forward).mpr ?_)
  exact Nat.mul_le_mul (by decide) all

/-- Below its cap the reflection is the quotient 1024 × vr / vf, cut off. -/
theorem reflection_bounds {vf vr : Nat} (forward : 0 < vf) (below : reflection vf vr < 1023) :
    reflection vf vr * vf ≤ 1024 * vr ∧ 1024 * vr < (reflection vf vr + 1) * vf := by
  have quotient : reflection vf vr = 1024 * vr / vf := by
    unfold reflection at below ⊢
    omega
  rw [quotient]
  exact ⟨Nat.div_mul_le_self _ _, Nat.lt_mul_of_div_lt (Nat.lt_succ_self _) forward⟩

/-! ## The trip decision (R136) -/

theorem two_le_tripRunAfter (e : Env) (run r : Nat) : 2 ≤ tripRunAfter e run r ↔
    921 ≤ r ∨ (threshold e.config.hall.tripVswr < r ∧ 1 ≤ run) := by
  unfold tripRunAfter Config.arcThreshold
  split
  case isTrue arc => simp [arc]
  case isFalse quiet =>
    split
    case isTrue above => simp [quiet, above]
    case isFalse clean => simp [quiet, clean]

theorem tripRunAfter_quiet (e : Env) (run : Nat) {r : Nat} (quiet : r < 921) : tripRunAfter e run r =
    if threshold e.config.hall.tripVswr < r then run + 1 else 0 := if_neg (Nat.not_le.mpr quiet)

/-! ## The warning (R137) -/

theorem setMonitor_congr {h : Hall} {t : Nat} {f g : Monitor → Monitor} (same : f (h.monitor t) = g (h.monitor t)) :
    h.setMonitor t f = h.setMonitor t g :=
  congrArg (fun m => { h with monitors := write h.monitors t m }) same

/-- The occurrence that a transmitter carries. -/
def Hall.occurrence (h : Hall) (t : Nat) : Option Occurrence :=
  (h.carriage t).map fun c => { booking := c.booking, day := c.day }

/-- The evaluations in a row above the warning threshold, after one more (R137). -/
def warnRunAfter (e : Env) (run r : Nat) : Nat := if threshold e.config.hall.warnVswr < r then run + 1 else 0

/-- The monitor after a warning decision that has come to these runs, with this occurrence carried (R137). -/
def Monitor.warnedAt (m : Monitor) (runs : Nat) (own : Option Occurrence) : Monitor :=
  { m with warnRun := if runs < 8 then runs else 0, warned := if 8 ≤ runs then own else m.warned }

section Warn

variable (e : Env) (t r : Nat) (h : Hall)

/-- The hall in which an evaluation is counted toward the warning, before the posting (R137). -/
def warnCounted : Hall :=
  h.setMonitor t fun m => m.warnedAt (warnRunAfter e (h.monitor t).warnRun r) (h.occurrence t)

/-- The eighth evaluation in a row is posted, once for an occurrence (R137). -/
theorem warn_eq : warn e t r h =
    if 8 ≤ warnRunAfter e (h.monitor t).warnRun r ∧ (h.monitor t).warned ≠ h.occurrence t then
      post e .reflectionWarn t (warnCounted e t r h)
    else warnCounted e t r h := by
  have unfolded : warn e t r h = if warnRunAfter e (h.monitor t).warnRun r < 8 then
        h.setMonitor t fun m => { m with warnRun := warnRunAfter e (h.monitor t).warnRun r }
      else
        let counted := h.setMonitor t fun m =>
          { m with warnRun := 0, warned := if (h.monitor t).warned ≠ h.occurrence t then h.occurrence t else m.warned }
        if (h.monitor t).warned ≠ h.occurrence t then post e .reflectionWarn t counted else counted := rfl
  rw [unfolded]
  unfold warnCounted
  generalize warnRunAfter e (h.monitor t).warnRun r = runs
  by_cases few : runs < 8
  · have short : ¬ 8 ≤ runs := Nat.not_le.mpr few
    simp only [Monitor.warnedAt, few, short, false_and, if_true, if_false]
  · have eight : 8 ≤ runs := Nat.not_lt.mp few
    by_cases known : (h.monitor t).warned = h.occurrence t
    · rw [if_neg few, if_neg (not_not_intro known), if_neg fun new => new.2 known]
      refine setMonitor_congr ?_
      simp only [Monitor.warnedAt, few, eight, known, ne_eq, not_true_eq_false, if_true, if_false]
    · simp only [Monitor.warnedAt, few, eight, known, ne_eq, not_false_eq_true, and_self, if_true, if_false]

/-- Beside its own monitor, a warning decision changes the postings alone (R137). -/
theorem warn_frame : warn e t r h = { warnCounted e t r h with
    attention := if 8 ≤ warnRunAfter e (h.monitor t).warnRun r ∧ (h.monitor t).warned ≠ h.occurrence t then
        h.attention.post e.mask .reflectionWarn t
      else h.attention } := by
  rw [warn_eq]
  split <;> rfl

end Warn

/-! ## An evaluation (R135 to R138) -/

/-- The monitor with a reflection entered into the record and the window (R135, R138). -/
def Monitor.entered (m : Monitor) (r : Nat) : Monitor :=
  { m with reflection := some r, window := addToWindow m.window r, displayed := some (displayedRatio (addToWindow m.window r)) }

/-- The hall in which an evaluation that does not trip comes to its warning decision (R136). -/
def untripped (e : Env) (k vf vr : Nat) (h : Hall) : Hall :=
  h.setMonitor k fun m =>
    { m.entered (reflection vf vr) with tripRun := tripRunAfter e (h.monitor k).tripRun (reflection vf vr) }

section Evaluation

variable (e : Env) (vf vr : Nat) {k : Nat} (h : Hall) (lt : k < 12)

include lt

theorem evaluate_eq : evaluate e k vf vr h =
    let r := reflection vf vr
    let run := tripRunAfter e (h.monitor k).tripRun r
    if 2 ≤ run then trip e k (h.setMonitor k fun m => { m.entered r with tripRun := 0, warnRun := 0 })
    else warn e k r (untripped e k vf vr h) := by
  unfold evaluate
  dsimp only
  rw [setMonitor_setMonitor _ _ _ lt, setMonitor_setMonitor _ _ _ lt]
  rfl

/-- An evaluation that trips (R136). -/
theorem evaluate_trips (trips : 921 ≤ reflection vf vr ∨
      (threshold e.config.hall.tripVswr < reflection vf vr ∧ 1 ≤ (h.monitor k).tripRun)) :
    evaluate e k vf vr h = trip e k (h.setMonitor k fun m =>
      { m.entered (reflection vf vr) with tripRun := 0, warnRun := 0 }) :=
  (evaluate_eq e vf vr h lt).trans (if_pos ((two_le_tripRunAfter e _ _).mpr trips))

/-- An evaluation that does not trip is a warning decision (R136, R137). -/
theorem evaluate_warns (quiet : reflection vf vr < 921)
    (stays : ¬ (threshold e.config.hall.tripVswr < reflection vf vr ∧ 1 ≤ (h.monitor k).tripRun)) :
    evaluate e k vf vr h = warn e k (reflection vf vr) (untripped e k vf vr h) := by
  have short : ¬ 2 ≤ tripRunAfter e (h.monitor k).tripRun (reflection vf vr) := fun two =>
    ((two_le_tripRunAfter e _ _).mp two).elim (Nat.not_le.mpr quiet) stays
  exact (evaluate_eq e vf vr h lt).trans (if_neg short)

theorem untripped_monitor (quiet : reflection vf vr < 921) : (untripped e k vf vr h).monitor k =
    { (h.monitor k).entered (reflection vf vr) with
      tripRun := if threshold e.config.hall.tripVswr < reflection vf vr then (h.monitor k).tripRun + 1 else 0 } := by
  rw [untripped, monitor_setMonitor_same _ k _ lt, tripRunAfter_quiet e _ quiet]

end Evaluation

/-- Settles O49: a conversion by its conditions, the reflection as a quotient, and an evaluation by whether it trips. -/
theorem evaluationsTripAndWarn : Obligations.EvaluationsTripAndWarn := by
  unfold Obligations.EvaluationsTripAndWarn
  refine ⟨⟨fun s k vf vr on => ?conversion,
      fun vf vr forward => ⟨reflection_le vf vr, reflection_full forward, reflection_bounds forward⟩,
      fun window => rfl, by decide⟩,
    fun e k vf vr h lt => ⟨evaluate_trips e vf vr h lt, fun quiet stays => ?warns⟩⟩
  case conversion =>
    refine (exec_detectorConversion on k vf vr).trans (congrArg _ (act_congr ?_))
    exact if_congr (isEvaluation_iff _ _ _ _) rfl rfl
  case warns =>
    rw [evaluate_warns e vf vr h lt quiet stays, warn_frame]
    have before := untripped_monitor e vf vr h lt quiet
    refine ⟨(monitor_setMonitor_same _ k _ lt).trans ?_, ?_, rfl, rfl⟩
    · rw [before]
      rfl
    · dsimp only
      rw [before]
      rfl

end Sys2Proof.Machine
end

section
/-! What a part that does not run makes of each command, the events of supply and restart input, and the events of the
link unit (R176, R177, R181 to R183, R185, R187): O4, O10. -/

namespace Sys2Proof.Machine

/-! ## A part that does not run (R177) -/

/-- A frame that is not taken is discarded, whatever command it is (R183). -/
theorem exec_frame_untaken {i : Instr} {s : State} {link : Link} {code : Nat} {tag : Byte}
    (is : frameOf i = some (link, code, tag)) (no : s.takes link = false) :
    exec i s = .next (s.setReceiver link .waiting) := by
  cases i with
  | setClock dest body =>
    cases dest with
    | addressed => cases is; exact congrArg Host.Outcome.next (frame_untaken no)
    | broadcast => cases is
  | unknownCommand =>
    cases is
    change execUnknownCommand _ _ _ s = _
    rw [execUnknownCommand, no]
    rfl
  | _ => cases is <;> exact congrArg Host.Outcome.next (frameOr_untaken no)

section Stopped

variable {i : Instr} {s : State} (off : s.power ≠ .running)

include off

theorem takes_stopped (link : Link) : s.takes link = false := by simp [State.takes, off]

theorem expiry_stopped (limit : Hall → Option Nat) (run : Env → Hall → Hall) : expiry limit run s = s := by
  unfold expiry
  split
  · rfl
  · exact event_stopped off

theorem broadcastClock_stopped (body : Body ClockValue) : broadcastClock body s = s := by
  cases body with
  | malformed => exact setReceiver_stopped off
  | fields v => simp [broadcastClock, setReceiver_stopped off, off]

theorem exec_frame_stopped {link : Link} {code : Nat} {tag : Byte} (is : frameOf i = some (link, code, tag)) :
    exec i s = .next s := by
  rw [exec_frame_untaken is (takes_stopped off link), setReceiver_stopped off]

/-- The clock, the hall lines and the timers change nothing: their events are taken only while the part runs. -/
theorem exec_hallEvent_stopped (is : isHallEvent i = true) : exec i s = .next s := by
  cases i with
  | pulseWatchExpiry =>
    change execPulseWatchExpiry s = _
    unfold execPulseWatchExpiry
    split
    · rfl
    · exact congrArg _ (event_stopped off)
  | internalAdvance =>
    change execInternalAdvance s = _
    unfold execInternalAdvance
    split
    · rfl
    · exact congrArg _ (event_stopped off)
  | contactReport =>
    change execContactReport _ _ _ s = _
    simp [execContactReport, off]
  | surveyLimit =>
    change execSurveyLimit s = _
    unfold execSurveyLimit
    split
    · rfl
    · exact congrArg _ (if_neg off)
  | secondPulse | settingCompletionReport | statusReport | tuneComplete | detectorConversion =>
    exact congrArg Host.Outcome.next (event_stopped off)
  | moveTimeout | settingTimeout | tuneTimeout | rfUpTimeout | rfDownTimeout | recycleTimerExpiry | cleanRunExpiry =>
    exact congrArg Host.Outcome.next (expiry_stopped off _ _)
  | _ => cases is

/-- What is left besides frames to answer, hall events and supply events: SET CLOCK to all halls and the link unit's own
events. -/
theorem exec_linkEvent_stopped (is : ((frameOf i).isSome || isHallEvent i || isSupplyEvent i) = false) :
    exec i s = .next s := by
  cases i with
  | setClock dest body =>
    cases dest with
    | addressed => cases is
    | broadcast => exact congrArg Host.Outcome.next (broadcastClock_stopped off body)
  | characterGapTimeout | linkBreak | frameDiscard => exact congrArg Host.Outcome.next (setReceiver_stopped off)
  | responseSent => exact congrArg Host.Outcome.next (if_neg off)
  | _ => cases is

theorem exec_stopped (supply : isSupplyEvent i = false) : exec i s = .next s := by
  cases framed : frameOf i with
  | some f => exact exec_frame_stopped off framed
  | none =>
    cases hall : isHallEvent i with
    | true => exact exec_hallEvent_stopped off hall
    | false => exact exec_linkEvent_stopped off (by rw [framed, hall, supply]; rfl)

end Stopped

/-! ## The supply and the restart input (R176, R177) -/

theorem exec_restartReleased_unhalted {s : State} (i : StartInputs) (on : ∀ since, s.power ≠ .halted since) :
    exec (.restartReleased i) s = .next s := by
  change execRestartReleased i s = _
  unfold execRestartReleased
  split
  · next since halted => exact absurd halted (on since)
  · rfl

theorem exec_restartHeld5s_unhalted {s : State} (address : Nat) (on : ∀ since, s.power ≠ .halted since) :
    exec (.restartHeld5s address) s = .next s := by
  change execRestartHeld5s address s = _
  unfold execRestartHeld5s
  split
  · next since halted => exact absurd halted (on since)
  · rfl

/-- Settles O4: nothing but the supply and the restart input reaches a part that does not run, and these five are read
off by whether it runs, is halted or is without supply. -/
theorem haltedPartTakesOnlySupplyEvents : Obligations.HaltedPartTakesOnlySupplyEvents := by
  unfold Obligations.HaltedPartTakesOnlySupplyEvents
  refine ⟨fun i s => exec_stopped, fun s i address => ⟨rfl, rfl, ?released, ?held, rfl, rfl⟩,
    fun h => ⟨fun k lt => withdrawAll_tx lt h, withdrawAll_frame h⟩⟩
  case released =>
    split
    · next halted => exact exec_restartReleased i halted
    · next on => exact exec_restartReleased_unhalted i on
  case held =>
    split
    · next halted => exact exec_restartHeld5s address halted
    · next on => exact exec_restartHeld5s_unhalted address on

/-! ## The receivers (R177, R182, R183) -/

theorem afterDiscard_unmarked (hall : Nat) (link : Link) {cause : Discard} (unmarked : ∀ address, cause ≠ .marked address) :
    afterDiscard hall link cause = .waiting := by
  unfold afterDiscard
  split
  · next address => exact absurd rfl (unmarked address)
  · rfl

/-! ## The end of a response (R182, R185, R187) -/

theorem sent_answered {l : LinkState} {o : Outstanding} {a : Answer} (asked : l.outstanding = some o)
    (answered : o.answer = some a) : l.sent =
      { l with outstanding := none, divisor := l.newDivisor.getD l.divisor, newDivisor := none
               receiver := if l.receiver = .disabled then .waiting else l.receiver } := by
  simp [LinkState.sent, asked, answered]

/-- A change of one link's state is what it makes of the state the link is in. -/
theorem setSide_congr {l : Links} {link : Link} {f g : LinkState → LinkState} (eq : f (l.side link) = g (l.side link)) :
    l.setSide link f = l.setSide link g := by
  cases link with
  | planning => exact congrArg (fun x => { l with planning := x }) eq
  | console => exact congrArg (fun x => { l with console := x }) eq

theorem exec_responseSent {link : Link} {s : State} {o : Outstanding} {a : Answer} (on : s.power = .running)
    (asked : (s.links.side link).outstanding = some o) (answered : o.answer = some a) :
    exec (.responseSent link) s = .next { s with links := s.links.setSide link fun l =>
      { l with outstanding := none, divisor := l.newDivisor.getD l.divisor, newDivisor := none
               receiver := if l.receiver = .disabled then .waiting else l.receiver } } := by
  change execResponseSent link s = _
  rw [execResponseSent, if_pos on]
  refine congrArg (fun links => Host.Outcome.next { s with links := links }) (setSide_congr ?_)
  exact sent_answered asked answered

theorem reply_receiver (s : State) (link : Link) (code : Nat) (tag : Byte) (a : Option Answer) :
    ((s.reply link code tag a).links.side link).receiver = receiverAfter link a.isSome := by
  rw [State.reply, side_setSide_same]

/-! ## Characters (R181, R185) -/

/-- A character without the mark is read back from its bits on the console link (R181). -/
theorem readCharacter_console (data : Byte) :
    readCharacter .console (characterBits .console ⟨false, data⟩) = some ⟨false, data⟩ := by
  revert data
  decide

theorem readCharacter_characterBits (link : Link) (c : LinkCharacter) (unmarked : link = .console → c.mark = false) :
    readCharacter link (characterBits link c) = some c := by
  cases link with
  | planning => exact readCharacter_planning c
  | console =>
    obtain ⟨mark, data⟩ := c
    obtain rfl : mark = false := unmarked rfl
    exact readCharacter_console data

theorem responseCharacters_planning (hall : Nat) {o : Outstanding} {l : List Byte} (sent : responseBytes o = some l) :
    responseCharacters .planning hall o =
      some ({ mark := true, data := BitVec.ofNat 8 hall } :: l.map fun b => { mark := false, data := b }) := by
  rw [responseCharacters, sent]
  rfl

theorem responseCharacters_console (hall : Nat) {o : Outstanding} {l : List Byte} (sent : responseBytes o = some l) :
    responseCharacters .console hall o = some (l.map fun b => { mark := false, data := b }) := by
  rw [responseCharacters, sent]
  rfl

/-- Settles O10: the receiver's next value by the event, a response's end by its answer, and the characters by the link. -/
theorem linkEventsAndResponses : Obligations.LinkEventsAndResponses := by
  unfold Obligations.LinkEventsAndResponses
  refine ⟨⟨fun link s i next event => ?received, fun r => ⟨rfl, rfl⟩, fun hall cause => ⟨rfl, ?marked,
      afterDiscard_unmarked hall .planning⟩⟩,
    fun link s o a => exec_responseSent, fun s link code tag a => ?replied,
    fun link c => readCharacter_characterBits link c,
    fun hall o l sent => ⟨responseCharacters_planning hall sent, responseCharacters_console hall sent⟩⟩
  case received =>
    change exec i s = .next (s.setReceiver link next)
    obtain ⟨rfl, rfl⟩ | ⟨rfl, rfl⟩ | ⟨cause, rfl, rfl⟩ := event
    · rfl
    · rfl
    · rfl
  case marked =>
    rintro address rfl
    rfl
  case replied =>
    rw [reply_receiver]
    rfl

end Sys2Proof.Machine
end

section
/-! What becomes of a frame: discarded, answered FORMAT, or its link's outstanding request, and what its block may change when
it refuses (R171, R182, R183, R185, R186): O7, O8, O9. -/

namespace Sys2Proof.Machine

/-! ## What a block may make of a command (R185, R186) -/

/-- A code that refuses a command: neither DONE nor PARKED (R186). -/
def Answer.Refuses (a : Answer) : Prop := a.result ≠ .done ∧ a.result ≠ .parked

theorem Answer.not_refuses_done (body : ResultBody) : ¬ Answer.Refuses { result := .done, body := body } := fun no => no.1 rfl

theorem Answer.not_refuses_parked (body : ResultBody) : ¬ Answer.Refuses { result := .parked, body := body } :=
  fun no => no.2 rfl

/-- An answer is held back only during the survey (R185), and one that refuses comes with no change of the hall (R186). -/
structure Effect.Answers (h : Hall) (x : Effect) : Prop where
  held : x.answer = none → h.matrix.survey.isSome = true
  refused : ∀ a, x.answer = some a → a.Refuses → x.change = none

@[simp] theorem answers_none (h : Hall) (a : Answer) : Effect.Answers h { answer := some a, change := none } :=
  ⟨nofun, fun _ _ _ => rfl⟩

@[simp] theorem answers_unchanged (h : Hall) (r : ResultCode) : (Effect.unchanged r).Answers h := answers_none h _

theorem answers_taken (h : Hall) {a : Answer} (f : Hall → Hall) (takes : ¬ a.Refuses) :
    Effect.Answers h { answer := some a, change := some f } :=
  ⟨nofun, by rintro _ ⟨⟩ no; exact absurd no takes⟩

@[simp] theorem answers_done (h : Hall) (f : Hall → Hall) : (Effect.done f).Answers h :=
  answers_taken h f (Answer.not_refuses_done _)

theorem answers_checked {h : Hall} (result : Option (ResultCode × Option (Nat × Bool))) {follows : Effect}
    (passed : follows.Answers h) : (Effect.checked result follows).Answers h := by
  cases result with
  | some r => exact answers_none h _
  | none => exact passed

theorem answers_matrixRequest {α : Type} (i : Instr) {run : α → Env → Hall → Effect}
    (settled : ∀ a e h, (run a e h).Answers h) (a : α) (e : Env) (h : Hall) : (matrixRequest i run a e h).Answers h := by
  unfold matrixRequest
  split
  · next survey => exact ⟨fun _ => survey, fun a is => by cases is⟩
  · exact settled a e h

/-- A verdict that refuses leaves the environment and the hall (R186). -/
def Verdict.Answers (e : Env) (v : Verdict) : Prop := v.answer.Refuses → v.env = e ∧ v.change = none

@[simp] theorem verdictAnswers_none (e : Env) (a : Answer) : Verdict.Answers e { answer := a, env := e, change := none } :=
  fun _ => ⟨rfl, rfl⟩

@[simp] theorem verdictAnswers_unchanged (e : Env) (r : ResultCode) : (Verdict.unchanged e r).Answers e := verdictAnswers_none e _

@[simp] theorem verdictAnswers_done (e e' : Env) (body : ResultBody) (f : Option (Hall → Hall)) :
    Verdict.Answers e { answer := { result := .done, body := body }, env := e', change := f } :=
  fun no => absurd no (Answer.not_refuses_done body)

@[simp] theorem verdictAnswers_code_done (e e' : Env) (f : Option (Hall → Hall)) :
    Verdict.Answers e { answer := Answer.code .done, env := e', change := f } := verdictAnswers_done e e' .empty f

/-! ## The commands of the booking table and the calendar -/

theorem enterRun_answers (b : Offered) (e : Env) (h : Hall) : (enterRun b e h).Answers h :=
  answers_checked _ (answers_done h _)

theorem loadRun_answers (l : List Offered) (e : Env) (h : Hall) : (loadRun l e h).Answers h := by
  unfold loadRun
  split
  · simp
  · exact answers_taken h _ (Answer.not_refuses_done _)

theorem amendServed_answers (e : Env) (t : Nat) (c : Carriage) (old : Booking) (b : Offered) (h : Hall) :
    (amendServed e t c old b h).Answers h := by
  unfold amendServed
  repeat' split
  · simp
  · simp
  · simp
  · exact answers_taken h _ (Answer.not_refuses_parked _)
  · simp

theorem amendRun_answers (b : Offered) (e : Env) (h : Hall) : (amendRun b e h).Answers h := by
  refine answers_checked _ ?_
  unfold amendChecked
  repeat' split
  · simp
  · simp
  · exact amendServed_answers e _ _ _ b h

theorem withdrawRun_answers (w : WithdrawArgs) (e : Env) (h : Hall) : (withdrawRun w e h).Answers h := by
  unfold withdrawRun
  repeat' split
  all_goals simp

theorem calendarAddRun_answers (x : SeasonEntry) (e : Env) (h : Hall) : (calendarAddRun x e h).Answers h := by
  unfold calendarAddRun
  split <;> simp

theorem calendarRemoveRun_answers (season : Nat) (e : Env) (h : Hall) : (calendarRemoveRun season e h).Answers h := by
  unfold calendarRemoveRun
  split <;> simp

theorem setClockRun_answers (v : ClockValue) (e : Env) (h : Hall) : (setClockRun v e h).Answers e := by
  unfold setClockRun
  split <;> simp

/-! ## The commands of hall control -/

theorem configureHallRun_answers (r : HallRecord) (e : Env) (h : Hall) : (configureHallRun r e h).Answers e := by
  unfold configureHallRun
  cases configureHallRefusal e h r with
  | none => exact verdictAnswers_done e _ _ _
  | some code => exact verdictAnswers_none e _

theorem commissionRun_answers (u : Unit) (e : Env) (h : Hall) : (commissionRun u e h).Answers e := by
  unfold commissionRun
  split <;> simp

theorem reconfigureRun_answers (u : Unit) (e : Env) (h : Hall) : (reconfigureRun u e h).Answers e := by
  unfold reconfigureRun
  repeat' split
  all_goals simp

theorem configureTransmitterRun_answers (w : TxWrite) (e : Env) (h : Hall) : (configureTransmitterRun w e h).Answers e := by
  unfold configureTransmitterRun
  repeat' split
  all_goals simp

theorem configureAntennaRun_answers (w : AntWrite) (e : Env) (h : Hall) : (configureAntennaRun w e h).Answers e := by
  unfold configureAntennaRun
  repeat' split
  all_goals simp

theorem hallStopRun_answers (u : Unit) (e : Env) (h : Hall) : (hallStopRun u e h).Answers e := by
  unfold hallStopRun
  split <;> simp

theorem hallResumeRun_answers (u : Unit) (e : Env) (h : Hall) : (hallResumeRun u e h).Answers e := by
  unfold hallResumeRun
  split <;> simp

theorem takeAmendmentRun_answers (t : Nat) (e : Env) (h : Hall) : (takeAmendmentRun t e h).Answers h := by
  unfold takeAmendmentRun
  repeat' split
  all_goals simp

theorem dropAmendmentRun_answers (t : Nat) (e : Env) (h : Hall) : (dropAmendmentRun t e h).Answers h := by
  unfold dropAmendmentRun
  repeat' split
  all_goals simp

/-! ## The console's commands on the matrix and on a transmitter -/

theorem lockRun_answers (a : Nat) (e : Env) (h : Hall) : (lockRun a e h).Answers h := by
  unfold lockRun
  repeat' split
  all_goals simp

theorem freeRun_answers (a : Nat) (e : Env) (h : Hall) : (freeRun a e h).Answers h := by
  unfold freeRun
  repeat' split
  all_goals simp

theorem clearSuspectRun_answers (a : Nat) (e : Env) (h : Hall) : (clearSuspectRun a e h).Answers h := by
  unfold clearSuspectRun
  repeat' split
  all_goals simp

theorem clearStuckRun_answers (x : RowCol) (e : Env) (h : Hall) : (clearStuckRun x e h).Answers h := by
  unfold clearStuckRun
  repeat' split
  all_goals simp

theorem takeLocalRun_answers (t : Nat) (e : Env) (h : Hall) : (takeLocalRun t e h).Answers h := by
  unfold takeLocalRun
  repeat' split
  all_goals simp

theorem giveRemoteRun_answers (t : Nat) (e : Env) (h : Hall) : (giveRemoteRun t e h).Answers h := by
  unfold giveRemoteRun
  repeat' split
  all_goals simp

theorem localRouteRun_answers (r : LocalRouteArgs) (e : Env) (h : Hall) : (localRouteRun r e h).Answers h := by
  unfold localRouteRun
  repeat' split
  all_goals simp

theorem localTuneRun_answers (r : LocalArgs) (e : Env) (h : Hall) : (localTuneRun r e h).Answers h := by
  unfold localTuneRun
  repeat' split
  all_goals simp

theorem localRfOnRun_answers (r : LocalArgs) (e : Env) (h : Hall) : (localRfOnRun r e h).Answers h := by
  unfold localRfOnRun
  repeat' split
  all_goals simp

theorem localRfOffRun_answers (t : Nat) (e : Env) (h : Hall) : (localRfOffRun t e h).Answers h := by
  unfold localRfOffRun
  repeat' split
  all_goals simp

theorem clearHeldRun_answers (t : Nat) (e : Env) (h : Hall) : (clearHeldRun t e h).Answers h := by
  unfold clearHeldRun
  repeat' split
  all_goals simp

/-! ## A frame that is taken (R185) -/

/-- What a command leaves when it is answered: the rate of its link and all of the other link, and when it refuses every
block too; its answer is held back only during the survey (R185, R186). -/
structure FrameRun (s : State) (link : Link) (x : State × Option Answer) : Prop where
  divisor : (x.1.links.side link).divisor = (s.links.side link).divisor
  other : ∀ other, other ≠ link → x.1.links.side other = s.links.side other
  held : x.2 = none → s.hall.matrix.survey.isSome = true
  refused : ∀ a, x.2 = some a → a.Refuses → x.1.hall = s.hall ∧ x.1.env = s.env

section Taken

variable {α : Type} {s : State} {link : Link}

/-- A command answered at once that changes no block. -/
theorem frameRun_links {l : Links} (a : Answer) (divisor : (l.side link).divisor = (s.links.side link).divisor)
    (other : ∀ other, other ≠ link → l.side other = s.links.side other) :
    FrameRun s link ({ s with links := l }, some a) :=
  ⟨divisor, other, nofun, fun _ _ _ => ⟨rfl, rfl⟩⟩

theorem frameRun_unchanged (a : Answer) : FrameRun s link (s, some a) := frameRun_links a rfl fun _ _ => rfl

/-- A command that does not refuse may change the blocks. -/
theorem frameRun_taken {t : State} {a : Answer} (links : t.links = s.links) (takes : ¬ a.Refuses) :
    FrameRun s link (t, some a) where
  divisor := by rw [links]
  other := fun _ _ => by rw [links]
  held := nofun
  refused := by rintro _ ⟨⟩ no; exact absurd no takes

theorem changing_frameRun {run : α → Env → Hall → Effect} {a : α} (answers : (run a s.env s.hall).Answers s.hall) :
    FrameRun s link (changing run a s) := by
  have links : (changing run a s).1.links = s.links := by
    rcases changing_cases run a s with eq | ⟨f, -, eq⟩ <;> rw [eq]
    rfl
  refine ⟨by rw [links], fun _ _ => by rw [links], ?_, fun x => ?_⟩
  · rw [changing_answer]
    exact answers.held
  · rw [changing_answer]
    intro is no
    have none' := answers.refused x is no
    simp only [changing, none', and_self]

theorem governing_frameRun {run : α → Env → Hall → Verdict} {a : α} (answers : (run a s.env s.hall).Answers s.env) :
    FrameRun s link (governing run a s) := by
  have links : (governing run a s).1.links = s.links := by
    unfold governing
    dsimp only
    split <;> rfl
  refine ⟨by rw [links], fun _ _ => by rw [links], ?_, fun x => ?_⟩
  · rw [governing_answer]
    nofun
  · rw [governing_answer]
    rintro ⟨⟩ no
    obtain ⟨env, none'⟩ := answers no
    simp only [governing, none', env, and_self]

theorem setMaskRun_frameRun (mask : BitVec 32) : FrameRun s link (setMaskRun mask s) := by
  unfold setMaskRun
  split
  · exact frameRun_taken rfl (Answer.not_refuses_done _)
  · exact frameRun_unchanged _

theorem setRateRun_frameRun (divisor : Nat) : FrameRun s link (setRateRun link divisor s) := by
  unfold setRateRun
  split
  · exact frameRun_unchanged _
  · exact frameRun_links _ (by rw [side_setSide_same]) fun other ne => side_setSide_ne _ _ _ _ ne

/-- A frame is taken with what its command leaves and answers. -/
def TakenWith (i : Instr) (s : State) (link : Link) (code : Nat) (tag : Byte) : Prop :=
  ∃ x : State × Option Answer, FrameRun s link x ∧ exec i s = .next (x.1.reply link code tag x.2)

theorem frameOr_takenWith {i : Instr} {bad : State → Answer} {code : Nat} {tag : Byte} {body : Body α}
    {run : α → State → State × Option Answer} (yes : s.takes link = true)
    (is : exec i s = .next (frameOr bad link code tag body run s)) (runs : ∀ a, FrameRun s link (run a s)) :
    TakenWith i s link code tag := by
  rw [TakenWith, is]
  cases body with
  | malformed => exact ⟨(s, some (bad s)), frameRun_unchanged _, by rw [frameOr_malformed yes]⟩
  | fields a => exact ⟨run a s, runs a, by rw [frameOr_fields yes]⟩

end Taken

/-- A command whose frame is taken becomes its link's outstanding request, with what its block makes of it (R185, R186). -/
theorem exec_frame_taken {i : Instr} {s : State} {link : Link} {code : Nat} {tag : Byte}
    (is : frameOf i = some (link, code, tag)) (yes : s.takes link = true) : TakenWith i s link code tag := by
  cases i with
  | enter => cases is; exact frameOr_takenWith yes rfl fun b => changing_frameRun (enterRun_answers b _ _)
  | loadBlock => cases is; exact frameOr_takenWith yes rfl fun l => changing_frameRun (loadRun_answers l _ _)
  | amend => cases is; exact frameOr_takenWith yes rfl fun b => changing_frameRun (amendRun_answers b _ _)
  | withdraw => cases is; exact frameOr_takenWith yes rfl fun w => changing_frameRun (withdrawRun_answers w _ _)
  | calendarAdd => cases is; exact frameOr_takenWith yes rfl fun x => changing_frameRun (calendarAddRun_answers x _ _)
  | calendarRemove => cases is; exact frameOr_takenWith yes rfl fun n => changing_frameRun (calendarRemoveRun_answers n _ _)
  | takeLocal => cases is; exact frameOr_takenWith yes rfl fun t => changing_frameRun (takeLocalRun_answers t _ _)
  | localTune => cases is; exact frameOr_takenWith yes rfl fun r => changing_frameRun (localTuneRun_answers r _ _)
  | localRfOff => cases is; exact frameOr_takenWith yes rfl fun t => changing_frameRun (localRfOffRun_answers t _ _)
  | clearHeld => cases is; exact frameOr_takenWith yes rfl fun t => changing_frameRun (clearHeldRun_answers t _ _)
  | takeAmendment => cases is; exact frameOr_takenWith yes rfl fun t => changing_frameRun (takeAmendmentRun_answers t _ _)
  | dropAmendment => cases is; exact frameOr_takenWith yes rfl fun t => changing_frameRun (dropAmendmentRun_answers t _ _)
  | lockAntenna =>
    cases is
    exact frameOr_takenWith yes rfl fun a => changing_frameRun (answers_matrixRequest _ lockRun_answers a _ _)
  | freeAntenna =>
    cases is
    exact frameOr_takenWith yes rfl fun a => changing_frameRun (answers_matrixRequest _ freeRun_answers a _ _)
  | clearSuspect =>
    cases is
    exact frameOr_takenWith yes rfl fun a => changing_frameRun (answers_matrixRequest _ clearSuspectRun_answers a _ _)
  | clearStuck =>
    cases is
    exact frameOr_takenWith yes rfl fun x => changing_frameRun (answers_matrixRequest _ clearStuckRun_answers x _ _)
  | giveRemote =>
    cases is
    exact frameOr_takenWith yes rfl fun t => changing_frameRun (answers_matrixRequest _ giveRemoteRun_answers t _ _)
  | localRoute =>
    cases is
    exact frameOr_takenWith yes rfl fun r => changing_frameRun (answers_matrixRequest _ localRouteRun_answers r _ _)
  | localRfOn =>
    cases is
    exact frameOr_takenWith yes rfl fun r => changing_frameRun (answers_matrixRequest _ localRfOnRun_answers r _ _)
  | fetch | list | calendarRead | readCues | readAntenna | readRoutes =>
    cases is
    exact frameOr_takenWith yes rfl fun _ => frameRun_unchanged _
  | readTransmitter link =>
    cases is
    exact frameOr_takenWith yes rfl fun _ => frameRun_links _ (by cases link <;> rfl) fun other _ => by cases other <;> rfl
  | setClock dest =>
    cases dest <;> cases is
    exact frameOr_takenWith yes rfl fun v => governing_frameRun (setClockRun_answers v _ _)
  | configureHall => cases is; exact frameOr_takenWith yes rfl fun r => governing_frameRun (configureHallRun_answers r _ _)
  | commission => cases is; exact frameOr_takenWith yes rfl fun u => governing_frameRun (commissionRun_answers u _ _)
  | reconfigure => cases is; exact frameOr_takenWith yes rfl fun u => governing_frameRun (reconfigureRun_answers u _ _)
  | configureTransmitter =>
    cases is
    exact frameOr_takenWith yes rfl fun w => governing_frameRun (configureTransmitterRun_answers w _ _)
  | configureAntenna =>
    cases is
    exact frameOr_takenWith yes rfl fun w => governing_frameRun (configureAntennaRun_answers w _ _)
  | hallStop => cases is; exact frameOr_takenWith yes rfl fun u => governing_frameRun (hallStopRun_answers u _ _)
  | hallResume => cases is; exact frameOr_takenWith yes rfl fun u => governing_frameRun (hallResumeRun_answers u _ _)
  | setAlarmMask => cases is; exact frameOr_takenWith yes rfl setMaskRun_frameRun
  | setLinkRate => cases is; exact frameOr_takenWith yes rfl setRateRun_frameRun
  | poll | ackAlarm =>
    cases is
    exact frameOr_takenWith yes rfl fun _ => frameRun_taken rfl (Answer.not_refuses_done _)
  | unknownCommand =>
    cases is
    exact ⟨(s, some (Answer.code .unknownCommand)), frameRun_unchanged _, congrArg _ (if_pos yes)⟩
  | _ => cases is

theorem reply_outstanding (s : State) (link : Link) (code : Nat) (tag : Byte) (a : Option Answer) :
    ((s.reply link code tag a).links.side link).outstanding =
      some { code := BitVec.ofNat 8 code, tag := tag, answer := a } := by
  rw [State.reply, side_setSide_same]

theorem reply_divisor (s : State) (link : Link) (code : Nat) (tag : Byte) (a : Option Answer) :
    ((s.reply link code tag a).links.side link).divisor = (s.links.side link).divisor := by
  rw [State.reply, side_setSide_same]

theorem reply_other (s : State) {link other : Link} (code : Nat) (tag : Byte) (a : Option Answer) (ne : other ≠ link) :
    (s.reply link code tag a).links.side other = s.links.side other := side_setSide_ne _ _ _ _ ne

/-- Settles O8: the frame becomes outstanding on its link, and its command leaves the rate and the other link. -/
theorem frameTakenBecomesOutstanding : Obligations.FrameTakenBecomesOutstanding := by
  unfold Obligations.FrameTakenBecomesOutstanding
  intro i s link code tag is yes
  obtain ⟨x, runs, eq⟩ := exec_frame_taken is yes
  exact ⟨_, x.2, eq, reply_outstanding _ _ _ _ _, runs.held, (reply_divisor _ _ _ _ _).trans runs.divisor,
    fun other ne => (reply_other _ _ _ _ ne).trans (runs.other other ne)⟩

/-- Settles O9: the answer that is outstanding is the one the command gave, and one that refuses changes no block. -/
theorem refusalLeavesTheStateAsItStood : Obligations.RefusalLeavesTheStateAsItStood := by
  unfold Obligations.RefusalLeavesTheStateAsItStood
  intro i s t link code tag a is yes run asked notDone notParked
  obtain ⟨x, runs, eq⟩ := exec_frame_taken is yes
  obtain rfl : x.1.reply link code tag x.2 = t := Host.Outcome.next.inj (eq.symm.trans run)
  rw [reply_outstanding] at asked
  have answer : x.2 = some a := congrArg Outstanding.answer (Option.some.inj asked)
  exact runs.refused a answer ⟨notDone, notParked⟩

/-! ## Bodies that do not decode (R171, R185, R193) -/

/-- The answer to a frame whose body does not decode: FORMAT, from CONFIGURE HALL with the hall record (R171, R185). -/
def malformedAnswer (i : Instr) (e : Env) : Answer :=
  match i with
  | .configureHall .. => hallAnswer e .format
  | _ => Answer.code .format

/-- Every command but CONFIGURE HALL answers FORMAT alone. -/
theorem exec_frame_malformed {i : Instr} {s : State} {link : Link} {code : Nat} {tag : Byte}
    (is : frameOf i = some (link, code, tag)) (yes : s.takes link = true) (bad : isMalformed i = true) :
    exec i s = .next (s.reply link code tag (some (malformedAnswer i s.env))) := by
  cases i with
  | setClock dest body =>
    cases dest <;> cases is
    cases body <;> cases bad
    exact congrArg Host.Outcome.next (frameOr_malformed yes)
  | unknownCommand => cases bad
  | enter _ body | loadBlock _ body | amend _ body | withdraw _ body | fetch _ _ body | list _ body | calendarAdd _ body
  | calendarRemove _ body | calendarRead _ body | readCues _ body | readTransmitter _ _ body | readAntenna _ _ body
  | readRoutes _ _ body | configureHall _ body | commission _ body | reconfigure _ body | configureTransmitter _ body
  | configureAntenna _ body | setAlarmMask _ body | poll _ _ body | setLinkRate _ _ body | lockAntenna _ body
  | freeAntenna _ body | clearSuspect _ body | clearStuck _ body | takeLocal _ body | giveRemote _ body
  | localRoute _ body | localTune _ body | localRfOn _ body | localRfOff _ body | clearHeld _ body | takeAmendment _ body
  | dropAmendment _ body | hallStop _ body | hallResume _ body | ackAlarm _ body =>
    cases is
    cases body <;> cases bad
    exact congrArg Host.Outcome.next (frameOr_malformed yes)
  | _ => cases is

/-- Settles O7: a frame is discarded or taken, and the answer to a body that does not decode depends on the command alone. -/
theorem framesDiscardedOrMalformed : Obligations.FramesDiscardedOrMalformed := by
  unfold Obligations.FramesDiscardedOrMalformed
  refine ⟨fun i s link code tag => exec_frame_untaken, fun i s link code tag is yes bad => ?_⟩
  rw [exec_frame_malformed is yes bad]
  cases i <;> rfl

end Sys2Proof.Machine
end

section
/-! SET LINK RATE and unknown commands, the alarm mask, POLL, ACK ALARM, and a posting (R185, R187 to R191): O11, O12, O13,
O14. -/

namespace Sys2Proof.Machine

/-! ## The commands of the link unit and the attention unit -/

section Commands

variable {s : State} {link : Link} {tag : Byte}

theorem exec_setLinkRate (yes : s.takes link = true) (n : Nat) : exec (.setLinkRate link tag (.fields n)) s =
    .next ((setRateRun link n s).1.reply link 22 tag (setRateRun link n s).2) :=
  congrArg Host.Outcome.next (frame_fields yes)

theorem exec_unknownCommand (yes : s.takes link = true) (code : Byte) :
    exec (.unknownCommand link code tag) s = answers s link code.toNat tag .unknownCommand :=
  congrArg Host.Outcome.next (if_pos yes)

theorem exec_setAlarmMask (yes : s.takes .planning = true) (m : BitVec 32) : exec (.setAlarmMask tag (.fields m)) s =
    .next ((setMaskRun m s).1.reply .planning 20 tag (setMaskRun m s).2) :=
  congrArg Host.Outcome.next (frame_fields yes)

theorem exec_ackAlarm (yes : s.takes .console = true) : exec (.ackAlarm tag (.fields ())) s =
    answers { s with hall := { s.hall with attention := { s.hall.attention with alarm := 0 } } } .console 38 tag .done :=
  congrArg Host.Outcome.next (frame_fields yes)

theorem exec_poll (yes : s.takes link = true) : exec (.poll link tag (.fields ())) s =
    .next ((pollRun link () s).1.reply link 21 tag (pollRun link () s).2) :=
  congrArg Host.Outcome.next (frame_fields yes)

end Commands

/-- Settles O11: the divisor alone decides SET LINK RATE. -/
theorem linkRateAndUnknownCommand : Obligations.LinkRateAndUnknownCommand := by
  unfold Obligations.LinkRateAndUnknownCommand
  intro s link tag code n yes
  refine ⟨?_, exec_unknownCommand yes code⟩
  rw [exec_setLinkRate yes, setRateRun]
  split <;> rfl

/-- Settles O13: the mask's size alone decides SET ALARM MASK. -/
theorem alarmMaskAndAcknowledgement : Obligations.AlarmMaskAndAcknowledgement := by
  unfold Obligations.AlarmMaskAndAcknowledgement
  refine ⟨fun s tag m yes => ?_, fun s tag yes => exec_ackAlarm yes⟩
  rw [exec_setAlarmMask yes, setMaskRun]
  split <;> rfl

/-! ## The summaries (R188, R189) -/

theorem read_emptySummary (k : Nat) : read emptySummary k = none := by
  by_cases lt : k < 24
  · exact read_replicate k none lt
  · exact read_out emptySummary k (Nat.le_of_not_lt lt)

theorem emptied_summary (a : Attention) (link : Link) : (a.emptied link).summary link = emptySummary := by
  cases link <;> rfl

theorem emptied_summary_ne (a : Attention) {link other : Link} (ne : other ≠ link) :
    (a.emptied link).summary other = a.summary other := by
  cases link <;> cases other <;> trivial

theorem emptied_alarm (a : Attention) (link : Link) : (a.emptied link).alarm = a.alarm := by cases link <;> rfl

/-- The alarm output of a part that runs is asserted while the alarm set holds a kind (R191). -/
theorem alarmOutput_running {s : State} (on : s.power = .running) :
    s.alarmOutput = decide (s.hall.attention.alarm ≠ 0) := by
  simp [State.alarmOutput, on, bne, BEq.beq]

theorem mem_members (summary : Vector (Option Nat) 24) (k v : Nat) :
    (k, v) ∈ members summary ↔ 1 ≤ k ∧ k ≤ 24 ∧ read summary (k - 1) = some v := by
  simp only [members, List.mem_filterMap, List.mem_range, Option.map_eq_some_iff, Prod.mk.injEq]
  constructor
  · rintro ⟨i, lt, _, is, rfl, rfl⟩
    exact ⟨Nat.succ_pos i, lt, is⟩
  · rintro ⟨pos, le, is⟩
    exact ⟨k - 1, by omega, v, is, by omega, rfl⟩

/-- The kinds of a summary are taken in the order of their codes. -/
theorem members_ascend (summary : Vector (Option Nat) 24) : ((members summary).map (·.1)).Pairwise (· < ·) := by
  rw [List.pairwise_map, members, List.pairwise_filterMap]
  refine List.pairwise_lt_range.imp ?_
  intro i j lt x first y second
  obtain ⟨_, -, rfl⟩ := Option.map_eq_some_iff.mp first
  obtain ⟨_, -, rfl⟩ := Option.map_eq_some_iff.mp second
  exact Nat.succ_lt_succ lt

/-- Settles O12: POLL answers with what stands in its link's summary and empties that summary. -/
theorem pollReadsAndEmptiesOneSummary : Obligations.PollReadsAndEmptiesOneSummary := by
  unfold Obligations.PollReadsAndEmptiesOneSummary
  refine ⟨fun s link tag yes => ?_, fun summary => ⟨mem_members summary, members_ascend summary⟩⟩
  refine ⟨_, exec_poll yes, ?asked, fun k => ?emptied, fun other ne => emptied_summary_ne _ ne, rfl, emptied_alarm _ link,
    rfl, fun other ne => reply_other _ _ _ _ ne⟩
  case asked =>
    rw [reply_outstanding, pollRun, alarmOutput_running (takes_running yes)]
  case emptied =>
    rw [reply_hall, pollRun]
    dsimp only
    rw [emptied_summary, read_emptySummary]

/-! ## A posting (R188, R191) -/

/-- One entry of a table written: it reads what was written, every other as before. -/
theorem read_write {α : Type} [Inhabited α] {n i : Nat} (v : Vector α n) (a : α) (lt : i < n) (j : Nat) :
    read (write v i a) j = if j = i then a else read v j := by
  split
  · next same => rw [same, read_write_same v i a lt]
  · next ne => exact read_write_ne v i j a ne

theorem holds_add (set : KindSet) (j k : EventKind) :
    KindSet.holds (KindSet.add set k) j = (KindSet.holds set j || decide (j = k)) := by
  have same : decide (j.bit = k.bit) = decide (j = k) :=
    decide_eq_decide.mpr ⟨kind_bit_inj, congrArg EventKind.bit⟩
  simp [KindSet.holds, KindSet.add, kind_bit_lt, same]

theorem holds_post_alarm (mask : KindSet) (j k : EventKind) (v : Nat) (a : Attention) :
    KindSet.holds (a.post mask k v).alarm j =
      (KindSet.holds a.alarm j || (decide (j = k) && KindSet.holds mask k)) := by
  rw [Attention.post]
  dsimp only
  split
  · next masked => rw [holds_add, masked, Bool.and_true]
  · next unmasked => rw [Bool.eq_false_of_not_eq_true unmasked, Bool.and_false, Bool.or_false]

/-- Settles O14: each summary by its entry of the kind, the alarm set by the mask. -/
theorem postingEntersSummariesAndAlarm : Obligations.PostingEntersSummariesAndAlarm := by
  unfold Obligations.PostingEntersSummariesAndAlarm
  exact fun e k v h => ⟨read_write h.attention.planning _ (kind_bit_lt k), read_write h.attention.console _ (kind_bit_lt k),
    fun j => holds_post_alarm e.mask j k v h.attention, rfl⟩

end Sys2Proof.Machine
end

section
/-! The cyclic check of frames and responses (R183 to R185): O15. -/

namespace Sys2Proof.Machine

/-! ## The check (R184) -/

theorem crc_append (l : List Byte) (b : Byte) : crc (l ++ [b]) = crcByte (crc l) b := by
  rw [crc, List.foldl_append]
  rfl

theorem crcBit_eq (reg : Word16) (bit : Bool) :
    crcBit reg bit = if reg.msb ≠ bit then (reg <<< 1) ^^^ 0x1021#16 else reg <<< 1 := (ite_not _ _ _).symm

theorem crcByte_eq (reg : Word16) (b : Byte) : crcByte reg b =
    [7, 6, 5, 4, 3, 2, 1, 0].foldl (fun (reg : Word16) (i : Nat) =>
      if reg.msb ≠ b.getLsbD i then (reg <<< 1) ^^^ 0x1021#16 else reg <<< 1) reg := by
  simp only [crcByte, crcBit_eq]

theorem toNat_pair (high low : Byte) : (high ++ low).toNat = high.toNat * 256 + low.toNat := by
  rw [BitVec.toNat_append, ← Nat.shiftLeft_add_eq_or_of_lt low.isLt, Nat.shiftLeft_eq]

/-- Two characters are those of a check when together they are the check, most significant first (R183). -/
theorem crcBytes_eq_iff (l : List Byte) (high low : Byte) : crcBytes l = [high, low] ↔ high ++ low = crc l := by
  have lt := (crc l).isLt
  simp only [crcBytes, putNum, List.cons.injEq, and_true, ← BitVec.toNat_inj, toNat_pair, BitVec.toNat_ofNat]
  omega

theorem crcBytes_pair (l : List Byte) : ∃ high low : Byte, crcBytes l = [high, low] ∧ high ++ low = crc l :=
  ⟨_, _, rfl, (crcBytes_eq_iff l _ _).mp rfl⟩

/-! ## A received frame (R183, R184) -/

theorem framed_eq (code : Nat) (body : List Byte) :
    framed code body = BitVec.ofNat 8 (body.length + 1) :: BitVec.ofNat 8 code :: body := by
  simp [framed, putNum]

/-- A frame of a length in range whose body is followed by two characters: they must be its check. -/
theorem frameCommand_framed (link : Link) {code : Nat} (tag high low : Byte) {body : List Byte} (known : code < 256)
    (fits : body.length ≤ 248) : frameCommand link false (framed code (tag :: body) ++ [high, low]) =
      if high ++ low = crc (framed code (tag :: body)) then commandOf link code tag body
      else .frameDiscard link .badCheck := by
  have length : (BitVec.ofNat 8 (body.length + 2)).toNat = body.length + 2 := by
    rw [BitVec.toNat_ofNat]
    omega
  have number : (BitVec.ofNat 8 code).toNat = code := by
    rw [BitVec.toNat_ofNat]
    omega
  rw [framed_eq]
  simp only [frameCommand, List.cons_append, List.length_cons]
  have drop : (tag :: (body ++ [high, low])).drop (body.length + 2 - 1) = [high, low] := by simp
  have take : (tag :: (body ++ [high, low])).take (body.length + 2 - 1) = tag :: body := by simp
  rw [length, number, if_neg (by omega), drop, take, ite_not]
  exact if_congr (eq_comm.trans (crcBytes_eq_iff _ high low)) rfl rfl

/-! ## A response (R185) -/

theorem responseBytes_check {o : Outstanding} {l : List Byte} (sent : responseBytes o = some l) :
    ∃ sent high low, l = sent ++ [high, low] ∧ high ++ low = crc sent := by
  obtain ⟨a, -, rfl⟩ := Option.map_eq_some_iff.mp sent
  dsimp only
  generalize putNum 1 _ ++ _ ++ _ ++ _ ++ putResult a.body = sent
  obtain ⟨high, low, bytes, check⟩ := crcBytes_pair sent
  exact ⟨sent, high, low, by rw [bytes], check⟩

/-- Settles O15: a check's two characters are read back as the check. -/
theorem checkOfFramesAndResponses : Obligations.CheckOfFramesAndResponses := by
  unfold Obligations.CheckOfFramesAndResponses
  exact ⟨⟨rfl, fun l b => (crc_append l b).trans (crcByte_eq _ b)⟩, by decide +kernel,
    fun link code tag high low body => frameCommand_framed link tag high low, fun o l => responseBytes_check⟩

end Sys2Proof.Machine
end

section
/-! Every command's body is read back from its bytes (R192, R193, Tables 46 and 47): O16. -/

namespace Sys2Proof.Machine

/-- A form is read back from its bytes, whatever follows them. -/
def ReadsBack {α : Type} (get : List Byte → Option (α × List Byte)) (put : α → List Byte) (a : α) : Prop :=
  ∀ rest, get (put a ++ rest) = some (a, rest)

/-- The rest of a layout is read after a field that is read back. -/
theorem ReadsBack.andThen {α β : Type} {get : List Byte → Option (α × List Byte)} {put : α → List Byte} {a : α}
    {follows : α × List Byte → Option β} {rest : List Byte} {x : Option β} (back : ReadsBack get put a)
    (more : follows (a, rest) = x) : (get (put a ++ rest)).bind follows = x := by
  rw [back rest]
  exact more

/-- A body that is read back decodes to its fields (R193). -/
theorem bodyOf_readsBack {α : Type} {get : List Byte → Option (α × List Byte)} {put : α → List Byte} {a : α}
    (back : ReadsBack get put a) : bodyOf get (put a) = .fields a := by
  have whole := back []
  rw [List.append_nil] at whole
  simp only [bodyOf, whole]

/-! ## Numbers and fields (R192) -/

theorem takeNum_putNum (n v : Nat) (rest : List Byte) : ∀ acc,
    takeNum n acc (putNum n v ++ rest) = some (acc * 256 ^ n + v % 256 ^ n, rest) := by
  induction n with
  | zero => intro acc; simp [takeNum, putNum, Nat.mod_one]
  | succ n ih =>
    intro acc
    have digits : (acc * 256 + v / 256 ^ n % 256) * 256 ^ n + v % 256 ^ n = acc * 256 ^ (n + 1) + v % 256 ^ (n + 1) := by
      rw [pow_succ, Nat.mod_mul]
      ring
    rw [putNum, List.cons_append, takeNum, ih, BitVec.toNat_ofNat]
    exact congrArg (fun m => some (m, rest)) digits

/-- A number that its width carries (R192). -/
theorem readsBack_num {n v : Nat} (fits : fitsBytes n v = true) : ReadsBack (getNum n) (putNum n) v := by
  intro rest
  rw [getNum, takeNum_putNum, Nat.zero_mul, Nat.zero_add, Nat.mod_eq_of_lt (of_decide_eq_true fits)]

theorem readsBack_opt {n : Nat} {v : Option Nat} (fits : fitsAbsent n v = true) : ReadsBack (getOpt n) (putOpt n) v := by
  intro rest
  have pos : 0 < 256 ^ n := Nat.pow_pos (by decide)
  cases v with
  | none =>
    have ones : fitsBytes n (allOnes n) = true := decide_eq_true (by unfold allOnes; omega)
    simp [getOpt, putOpt, readsBack_num ones rest]
  | some v =>
    have lt : v < 256 ^ n - 1 := of_decide_eq_true fits
    have carried : fitsBytes n v = true := decide_eq_true (by omega)
    have ne : v ≠ allOnes n := by unfold allOnes; omega
    simp [getOpt, putOpt, readsBack_num carried rest, ne]

/-- A season id that may be absent travels as 0 when it is. -/
theorem readsBack_season {v : Option Nat} (fits : v.all (fun s => 1 ≤ s && fitsBytes 1 s) = true) :
    ReadsBack getSeasonOpt (fun v => putNum 1 (v.getD 0)) v := by
  intro rest
  cases v with
  | none => rfl
  | some s =>
    obtain ⟨pos, carried⟩ := Bool.and_eq_true_iff.mp fits
    have ne : s ≠ 0 := Nat.ne_of_gt (of_decide_eq_true pos)
    simp [getSeasonOpt, readsBack_num carried rest, ne]

theorem readsBack_flag (b : Bool) : ReadsBack getFlag putFlag b := by
  intro rest
  cases b <;> rfl

/-- A slew step and a direction that the setting byte carries (R192). -/
theorem readsBack_setting {x : Setting} (fits : x.wf = true) : ReadsBack getSetting putSetting x := by
  intro rest
  obtain ⟨slew, dir⟩ := x
  have range : -6 ≤ slew ∧ slew ≤ 6 := by simpa [Setting.wf] using fits
  cases dir with
  | forward => simp [getSetting, putSetting]; omega
  | reverse => simp [getSetting, putSetting]; omega

/-- Only the first byte tells the days. -/
theorem getDays_cons {b : Byte} {d : Weekdays} (alone : getDays [b] = some (d, [])) (rest : List Byte) :
    getDays (b :: rest) = some (d, rest) := by
  simp only [getDays] at alone ⊢
  split at alone
  · next lt =>
    cases alone
    exact if_pos lt
  · cases alone

/-- Each of the 128 sets of weekdays has its byte (R192). -/
theorem getDays_putDays : ∀ a b c d e f g : Bool,
    getDays (putDays #v[a, b, c, d, e, f, g]) = some (#v[a, b, c, d, e, f, g], []) := by
  decide +kernel

theorem readsBack_days (d : Weekdays) : ReadsBack getDays putDays d := by
  obtain ⟨⟨l⟩, size⟩ := d
  match l, size with
  | [a, b, c, d, e, f, g], _ => exact getDays_cons (getDays_putDays a b c d e f g)

/-- Characters that their bytes carry. -/
theorem readsBack_chars {l : List Nat} (fits : l.all (fitsBytes 1) = true) :
    ReadsBack (getChars l.length) (·.flatMap (putNum 1)) l := by
  intro rest
  dsimp only
  induction l with
  | nil => rfl
  | cons c l ih =>
    obtain ⟨carried, more⟩ := Bool.and_eq_true_iff.mp fits
    have code : (BitVec.ofNat 8 (c / 256 ^ 0)).toNat = c := by
      have lt : c < 256 ^ 1 := of_decide_eq_true carried
      rw [BitVec.toNat_ofNat]
      omega
    rw [List.flatMap_cons, putNum, putNum, List.length_cons, List.cons_append, List.cons_append, getChars]
    rw [List.nil_append, ih more, code]
    rfl

theorem readsBack_label {l : List Nat} (short : fitsBytes 1 l.length = true) (fits : l.all (fitsBytes 1) = true) :
    ReadsBack getLabel putLabel l := by
  intro rest
  rw [putLabel, List.append_assoc]
  exact (readsBack_num short).andThen (readsBack_chars fits rest)

/-- A day number that may be absent leaves its bytes at zero when it is. -/
theorem readsBack_day {d : Option Nat} (fits : d.all (fitsBytes 2) = true) : ReadsBack (getNum 2) (putNum 2) (d.getD 0) := by
  cases d with
  | none => exact readsBack_num rfl
  | some d => exact readsBack_num fits

/-! ## A booking record (Table 47) -/

/-- The date flags of a record in offered form, bit 0 for a first day and bit 1 for a last. -/
def dateFlags (b : Offered) : Nat := (if b.firstDay.isSome then 1 else 0) + (if b.lastDay.isSome then 2 else 0)

/-- The flags tell which of the two day numbers are there. -/
theorem dateFlags_days (b : Offered) : dateFlags b < 4 ∧
    (if dateFlags b % 2 = 1 then some (b.firstDay.getD 0) else none) = b.firstDay ∧
    (if 2 ≤ dateFlags b then some (b.lastDay.getD 0) else none) = b.lastDay := by
  unfold dateFlags
  cases b.firstDay <;> cases b.lastDay <;> simp

theorem readsBack_offered {b : Offered} (fits : b.wf = true) : ReadsBack getOffered putOffered b := by
  intro rest
  simp only [Offered.wf, Bool.and_eq_true] at fits
  obtain ⟨⟨⟨⟨⟨⟨⟨⟨⟨⟨⟨⟨⟨number, season⟩, transmitter⟩, antenna⟩, alternate⟩, setting⟩, frequency⟩, power⟩, start⟩, duration⟩,
    first⟩, last⟩, short⟩, label⟩ := fits
  obtain ⟨four, firstDay, lastDay⟩ := dateFlags_days b
  have flags : fitsBytes 1 (dateFlags b) = true := decide_eq_true (by omega)
  simp only [getOffered, putOffered, putRecord, List.append_assoc]
  refine (readsBack_num number).andThen ?_
  refine (readsBack_num season).andThen ?_
  refine (readsBack_num transmitter).andThen ?_
  refine (readsBack_num antenna).andThen ?_
  refine (readsBack_opt alternate).andThen ?_
  refine (readsBack_setting setting).andThen ?_
  refine (readsBack_num frequency).andThen ?_
  refine (readsBack_num power).andThen ?_
  refine (readsBack_num start).andThen ?_
  refine (readsBack_num duration).andThen ?_
  refine (readsBack_days b.days).andThen ?_
  refine (readsBack_num flags).andThen ?_
  refine (readsBack_day first).andThen ?_
  refine (readsBack_day last).andThen ?_
  refine (readsBack_label short label).andThen ?_
  simp only [four, firstDay, lastDay, if_true]

/-- Records one after another. -/
theorem readsBack_records {l : List Offered} (fits : l.all Offered.wf = true) :
    ReadsBack (getRecords l.length) (·.flatMap putOffered) l := by
  intro rest
  dsimp only
  induction l with
  | nil => rfl
  | cons b l ih =>
    obtain ⟨carried, more⟩ := Bool.and_eq_true_iff.mp fits
    rw [List.flatMap_cons, List.append_assoc]
    refine (readsBack_offered carried).andThen ?_
    dsimp only
    rw [ih more]
    rfl

theorem readsBack_block {l : List Offered} (fits : (fitsBytes 1 l.length && l.all Offered.wf) = true) :
    ReadsBack getBlock putBlock l := by
  intro rest
  obtain ⟨short, records⟩ := Bool.and_eq_true_iff.mp fits
  rw [putBlock, List.append_assoc]
  exact (readsBack_num short).andThen (readsBack_records records rest)

/-! ## The other command bodies (Table 46) -/

theorem readsBack_withdraw {w : WithdrawArgs} (fits : fitsBytes 2 w.number = true) : ReadsBack getWithdraw putWithdraw w := by
  intro rest
  simp only [getWithdraw, putWithdraw, List.append_assoc]
  exact (readsBack_num fits).andThen <| (readsBack_flag w.now).andThen rfl

theorem readsBack_list {a : ListArgs} (fits : a.wf = true) : ReadsBack getList putList a := by
  intro rest
  simp only [ListArgs.wf, Bool.and_eq_true] at fits
  obtain ⟨⟨⟨start, transmitter⟩, antenna⟩, season⟩ := fits
  simp only [getList, putList, List.append_assoc]
  exact (readsBack_num start).andThen <| (readsBack_opt transmitter).andThen <| (readsBack_opt antenna).andThen <|
    (readsBack_season season).andThen rfl

theorem readsBack_seasonEntry {x : SeasonEntry} (fits : (fitsBytes 1 x.id && fitsBytes 2 x.firstDay) = true) :
    ReadsBack getSeasonEntry putSeasonEntry x := by
  intro rest
  obtain ⟨id, day⟩ := Bool.and_eq_true_iff.mp fits
  simp only [getSeasonEntry, putSeasonEntry, List.append_assoc]
  exact (readsBack_num id).andThen <| (readsBack_num day).andThen rfl

theorem readsBack_clock {v : ClockValue} (fits : (fitsBytes 2 v.day && fitsBytes 3 v.second) = true) :
    ReadsBack getClock putClock v := by
  intro rest
  obtain ⟨day, second⟩ := Bool.and_eq_true_iff.mp fits
  simp only [getClock, putClock, List.append_assoc]
  exact (readsBack_num day).andThen <| (readsBack_num second).andThen rfl

theorem readsBack_hall {r : HallRecord} (fits : r.wf = true) : ReadsBack getHall putHall r := by
  intro rest
  simp only [HallRecord.wf, Bool.and_eq_true] at fits
  obtain ⟨⟨⟨⟨⟨⟨⟨⟨⟨⟨⟨nearlyFull, guard⟩, horizon⟩, margin⟩, travel⟩, tuneGrace⟩, floor⟩, tripVswr⟩, warnVswr⟩, recycleDelay⟩,
    retryLimit⟩, cleanRun⟩ := fits
  simp only [getHall, putHall, List.append_assoc]
  exact (readsBack_num nearlyFull).andThen <| (readsBack_num guard).andThen <| (readsBack_num horizon).andThen <|
    (readsBack_num margin).andThen <| (readsBack_num travel).andThen <| (readsBack_num tuneGrace).andThen <|
    (readsBack_num floor).andThen <| (readsBack_num tripVswr).andThen <| (readsBack_num warnVswr).andThen <|
    (readsBack_num recycleDelay).andThen <| (readsBack_num retryLimit).andThen <| (readsBack_num cleanRun).andThen rfl

theorem readsBack_txWrite {w : TxWrite} (fits : w.wf = true) : ReadsBack getTxWrite putTxWrite w := by
  intro rest
  simp only [TxWrite.wf, Bool.and_eq_true] at fits
  obtain ⟨⟨⟨⟨⟨⟨transmitter, minFreq⟩, maxFreq⟩, rated⟩, tuneBase⟩, tuneRate⟩, rfDown⟩ := fits
  simp only [getTxWrite, putTxWrite, List.append_assoc]
  exact (readsBack_num transmitter).andThen <| (readsBack_flag w.config.present).andThen <| (readsBack_num minFreq).andThen <|
    (readsBack_num maxFreq).andThen <| (readsBack_num rated).andThen <| (readsBack_num tuneBase).andThen <|
    (readsBack_num tuneRate).andThen <| (readsBack_num rfDown).andThen rfl

theorem readsBack_windows {l : List Band} (fits : l.all (fun b => fitsBytes 2 b.low && fitsBytes 2 b.high) = true) :
    ReadsBack (getWindows l.length) (·.flatMap fun w => putNum 2 w.low ++ putNum 2 w.high) l := by
  intro rest
  dsimp only
  induction l with
  | nil => rfl
  | cons b l ih =>
    obtain ⟨carried, more⟩ := Bool.and_eq_true_iff.mp fits
    obtain ⟨low, high⟩ := Bool.and_eq_true_iff.mp carried
    rw [List.flatMap_cons, List.append_assoc, List.append_assoc]
    refine (readsBack_num low).andThen <| (readsBack_num high).andThen ?_
    dsimp only
    rw [ih more]
    rfl

theorem readsBack_antWrite {w : AntWrite} (fits : w.wf = true) : ReadsBack getAntWrite putAntWrite w := by
  intro rest
  simp only [AntWrite.wf, Bool.and_eq_true] at fits
  obtain ⟨⟨⟨⟨⟨⟨antenna, bearing⟩, rating⟩, maxSlew⟩, settingTime⟩, short⟩, windows⟩ := fits
  simp only [getAntWrite, putAntWrite, putWindows, List.append_assoc]
  exact (readsBack_num antenna).andThen <| (readsBack_flag w.config.present).andThen <| (readsBack_num bearing).andThen <|
    (readsBack_num rating).andThen <| (readsBack_num maxSlew).andThen <| (readsBack_flag w.config.reversible).andThen <|
    (readsBack_num settingTime).andThen <| (readsBack_num short).andThen <| (readsBack_windows windows).andThen rfl

theorem readsBack_rowCol {x : RowCol} (fits : (fitsBytes 1 x.row && fitsBytes 1 x.col) = true) :
    ReadsBack getRowCol putRowCol x := by
  intro rest
  obtain ⟨row, col⟩ := Bool.and_eq_true_iff.mp fits
  simp only [getRowCol, putRowCol, List.append_assoc]
  exact (readsBack_num row).andThen <| (readsBack_num col).andThen rfl

theorem readsBack_localRoute {r : LocalRouteArgs}
    (fits : (fitsBytes 1 r.transmitter && fitsAbsent 1 r.column) = true) : ReadsBack getLocalRoute putLocalRoute r := by
  intro rest
  obtain ⟨transmitter, column⟩ := Bool.and_eq_true_iff.mp fits
  simp only [getLocalRoute, putLocalRoute, List.append_assoc]
  exact (readsBack_num transmitter).andThen <| (readsBack_opt column).andThen rfl

theorem readsBack_local {r : LocalArgs} (fits : (fitsBytes 1 r.transmitter && fitsBytes 2 r.value) = true) :
    ReadsBack getLocal putLocal r := by
  intro rest
  obtain ⟨transmitter, value⟩ := Bool.and_eq_true_iff.mp fits
  simp only [getLocal, putLocal, List.append_assoc]
  exact (readsBack_num transmitter).andThen <| (readsBack_num value).andThen rfl

/-- Every kind set has its four bytes. -/
theorem readsBack_mask (m : BitVec 32) : ReadsBack getMask putMask m := by
  intro rest
  have fits : fitsBytes 4 m.toNat = true := decide_eq_true m.isLt
  simp [getMask, putMask, readsBack_num fits rest]

/-! ## Command frames (R185, Table 40) -/

/-- Settles O16: the code names the command, and its body is read back field by field. -/
theorem commandBodiesDecodeBack : Obligations.CommandBodiesDecodeBack := by
  unfold Obligations.CommandBodiesDecodeBack
  intro i link code tag body fits is bytes
  cases i with
  | enter _ b | amend _ b =>
    cases is
    cases b <;> cases bytes
    simp only [commandOf, bodyOf_readsBack (readsBack_offered fits)]
  | loadBlock _ b =>
    cases is
    cases b <;> cases bytes
    simp only [commandOf, bodyOf_readsBack (readsBack_block fits)]
  | withdraw _ b =>
    cases is
    cases b <;> cases bytes
    simp only [commandOf, bodyOf_readsBack (readsBack_withdraw fits)]
  | list _ b =>
    cases is
    cases b <;> cases bytes
    simp only [commandOf, bodyOf_readsBack (readsBack_list fits)]
  | calendarAdd _ b =>
    cases is
    cases b <;> cases bytes
    simp only [commandOf, bodyOf_readsBack (readsBack_seasonEntry fits)]
  | configureHall _ b =>
    cases is
    cases b <;> cases bytes
    simp only [commandOf, bodyOf_readsBack (readsBack_hall fits)]
  | configureTransmitter _ b =>
    cases is
    cases b <;> cases bytes
    simp only [commandOf, bodyOf_readsBack (readsBack_txWrite fits)]
  | configureAntenna _ b =>
    cases is
    cases b <;> cases bytes
    simp only [commandOf, bodyOf_readsBack (readsBack_antWrite fits)]
  | clearStuck _ b =>
    cases is
    cases b <;> cases bytes
    simp only [commandOf, bodyOf_readsBack (readsBack_rowCol fits)]
  | localRoute _ b =>
    cases is
    cases b <;> cases bytes
    simp only [commandOf, bodyOf_readsBack (readsBack_localRoute fits)]
  | localTune _ b | localRfOn _ b =>
    cases is
    cases b <;> cases bytes
    simp only [commandOf, bodyOf_readsBack (readsBack_local fits)]
  | setClock dest b =>
    cases dest <;> cases is
    cases b <;> cases bytes
    simp only [commandOf, bodyOf_readsBack (readsBack_clock fits)]
  | setAlarmMask _ b =>
    cases is
    cases b <;> cases bytes
    simp only [commandOf, bodyOf_readsBack (readsBack_mask _)]
  | calendarRemove _ b | readCues _ b | lockAntenna _ b | freeAntenna _ b | clearSuspect _ b | takeLocal _ b | giveRemote _ b
  | localRfOff _ b | clearHeld _ b | takeAmendment _ b | dropAmendment _ b =>
    cases is
    cases b <;> cases bytes
    simp only [commandOf, bodyOf_readsBack (readsBack_num fits)]
  | fetch link _ b | readTransmitter link _ b | readAntenna link _ b | readRoutes link _ b | setLinkRate link _ b =>
    cases is
    cases b <;> cases bytes
    cases link <;> simp only [commandOf, bodyOf_readsBack (readsBack_num fits)]
  | calendarRead _ b | commission _ b | reconfigure _ b | hallStop _ b | hallResume _ b | ackAlarm _ b =>
    cases is
    cases b <;> cases bytes
    rfl
  | poll link _ b =>
    cases is
    cases b <;> cases bytes
    cases link <;> rfl
  | _ => cases is <;> cases bytes

end Sys2Proof.Machine
end

section
/-! A step takes the front of the queue, and every command completes with the rest of the queue as it stood (R26, R176,
R177): O1, O3. -/

namespace Sys2Proof.Machine

/-! ## The front of the queue -/

theorem step_cons {c : Instr} {rest : List Instr} {s : State} (front : s.pending = c :: rest) :
    step s = exec c { s with pending := rest } := by
  rw [step, front]

/-- Settles O1: the front command meets the state with the rest of the queue alone. -/
theorem stepTakesTheFrontCommand : Obligations.StepTakesTheFrontCommand := by
  unfold Obligations.StepTakesTheFrontCommand
  intro c rest s
  exact step_cons rfl

/-! ## Frames and link events leave the queue and whether the part runs -/

/-- The queue, and whether the part runs, are as they stood. -/
structure KeepsQueue (s t : State) : Prop where
  pending : t.pending = s.pending
  power : t.power = s.power

section Keeps

variable {α : Type} {s : State} {link : Link}

theorem KeepsQueue.refl (s : State) : KeepsQueue s s := ⟨rfl, rfl⟩

theorem reply_keepsQueue {t : State} (code : Nat) (tag : Byte) (a : Option Answer) (kept : KeepsQueue s t) :
    KeepsQueue s (t.reply link code tag a) := ⟨kept.pending, kept.power⟩

theorem setReceiver_keepsQueue (s : State) (link : Link) (r : Receiver) : KeepsQueue s (s.setReceiver link r) :=
  ⟨setReceiver_pending s link r, setReceiver_power s link r⟩

theorem changing_keepsQueue (run : α → Env → Hall → Effect) (a : α) : KeepsQueue s (changing run a s).1 := by
  rcases changing_cases run a s with eq | ⟨f, -, eq⟩
  · rw [eq]; exact .refl s
  · rw [eq]; exact ⟨act_pending s f, act_power s f⟩

theorem governing_keepsQueue (run : α → Env → Hall → Verdict) (a : α) : KeepsQueue s (governing run a s).1 := by
  unfold governing
  dsimp only
  split
  · exact ⟨rfl, rfl⟩
  · exact ⟨act_pending _ _, act_power _ _⟩

theorem setMaskRun_keepsQueue (mask : BitVec 32) : KeepsQueue s (setMaskRun mask s).1 := by
  unfold setMaskRun
  split
  · exact ⟨rfl, rfl⟩
  · exact .refl s

theorem setRateRun_keepsQueue (link : Link) (divisor : Nat) : KeepsQueue s (setRateRun link divisor s).1 := by
  unfold setRateRun
  split
  · exact .refl s
  · exact ⟨rfl, rfl⟩

/-- A frame keeps the queue, taken or discarded, when its command does. -/
theorem frameOr_keepsQueue {bad : State → Answer} {code : Nat} {tag : Byte} {body : Body α}
    {run : α → State → State × Option Answer} (keeps : ∀ a, KeepsQueue s (run a s).1) :
    KeepsQueue s (frameOr bad link code tag body run s) := by
  cases yes : s.takes link with
  | false => rw [frameOr_untaken yes]; exact setReceiver_keepsQueue s link _
  | true =>
    cases body with
    | malformed => rw [frameOr_malformed yes]; exact reply_keepsQueue _ _ _ (.refl s)
    | fields a => rw [frameOr_fields yes]; exact reply_keepsQueue _ _ _ (keeps a)

theorem broadcastClock_keepsQueue (body : Body ClockValue) (s : State) : KeepsQueue s (broadcastClock body s) := by
  have waiting := setReceiver_keepsQueue s .planning .waiting
  unfold broadcastClock
  dsimp only
  split
  · exact waiting
  · split
    · exact ⟨waiting.pending, waiting.power⟩
    · exact waiting

end Keeps

/-- Every frame that asks for an answer completes (R185). -/
theorem frame_completes {i : Instr} (s : State) (framed : (frameOf i).isSome = true) :
    ∃ t, exec i s = .next t ∧ KeepsQueue s t := by
  cases i with
  | enter | loadBlock | amend | withdraw | calendarAdd | calendarRemove | lockAntenna | freeAntenna | clearSuspect
  | clearStuck | takeLocal | giveRemote | localRoute | localTune | localRfOn | localRfOff | clearHeld | takeAmendment
  | dropAmendment => exact ⟨_, rfl, frameOr_keepsQueue (changing_keepsQueue _)⟩
  | fetch | list | calendarRead | readCues | readAntenna | readRoutes =>
    exact ⟨_, rfl, frameOr_keepsQueue fun _ => .refl s⟩
  | readTransmitter | poll | ackAlarm => exact ⟨_, rfl, frameOr_keepsQueue fun _ => ⟨rfl, rfl⟩⟩
  | setClock dest =>
    cases dest with
    | addressed => exact ⟨_, rfl, frameOr_keepsQueue (governing_keepsQueue _)⟩
    | broadcast => cases framed
  | configureHall | commission | reconfigure | configureTransmitter | configureAntenna | hallStop | hallResume =>
    exact ⟨_, rfl, frameOr_keepsQueue (governing_keepsQueue _)⟩
  | setAlarmMask => exact ⟨_, rfl, frameOr_keepsQueue setMaskRun_keepsQueue⟩
  | setLinkRate => exact ⟨_, rfl, frameOr_keepsQueue (setRateRun_keepsQueue _)⟩
  | unknownCommand =>
    refine ⟨_, rfl, ?_⟩
    split
    · exact reply_keepsQueue _ _ _ (.refl s)
    · exact setReceiver_keepsQueue s _ _
  | _ => cases framed

/-- SET CLOCK to all halls and the link unit's own events complete (R182, R183, R185, R187). -/
theorem linkEvent_completes {i : Instr} (s : State)
    (is : ((frameOf i).isSome || isHallEvent i || isSupplyEvent i) = false) :
    ∃ t, exec i s = .next t ∧ KeepsQueue s t := by
  cases i with
  | setClock dest body =>
    cases dest with
    | addressed => cases is
    | broadcast => exact ⟨_, rfl, broadcastClock_keepsQueue body s⟩
  | characterGapTimeout | linkBreak | frameDiscard => exact ⟨_, rfl, setReceiver_keepsQueue s _ _⟩
  | responseSent =>
    refine ⟨_, rfl, ?_⟩
    split
    · exact ⟨rfl, rfl⟩
    · exact .refl s
  | _ => cases is

/-! ## Events of the clock, the hall lines and the timers leave whether the part runs -/

section Events

variable {s : State}

theorem event_power (env : Env → Env) (run : Env → Hall → Hall) : (event env run s).power = s.power := by
  unfold event
  split
  · exact act_power _ _
  · rfl

theorem expiry_power (limit : Hall → Option Nat) (run : Env → Hall → Hall) : (expiry limit run s).power = s.power := by
  unfold expiry
  split
  · rfl
  · exact event_power _ _

theorem surveyOver_power (e : Env) (sv : Survey) (change : Hall → Hall) : (surveyOver e sv change s).power = s.power := by
  unfold surveyOver State.deliver
  split
  · exact event_power _ _
  · exact event_power _ _

theorem contact_power (r c : Nat) (reading : Reading) : (contact r c reading s).power = s.power := by
  unfold contact
  dsimp only
  repeat' split
  · exact event_power _ _
  · exact surveyOver_power _ _ _
  · exact event_power _ _
  · exact event_power _ _

theorem hallEvent_power {i : Instr} {t : State} (is : isHallEvent i = true) (run : exec i s = .next t) :
    t.power = s.power := by
  have next {t' : State} (kept : t'.power = s.power)
      (eq : Host.Outcome.next t' = (.next t : Host.Outcome State Fault Refusal)) : t.power = s.power := by
    cases eq
    exact kept
  cases i with
  | pulseWatchExpiry =>
    change execPulseWatchExpiry s = _ at run
    unfold execPulseWatchExpiry at run
    split at run
    · exact next rfl run
    · exact next (event_power _ _) run
  | internalAdvance =>
    change execInternalAdvance s = _ at run
    unfold execInternalAdvance at run
    split at run
    · exact next rfl run
    · exact next (event_power _ _) run
  | contactReport row col reading =>
    refine next ?_ run
    split
    · exact contact_power row col reading
    · rfl
  | surveyLimit =>
    change execSurveyLimit s = _ at run
    unfold execSurveyLimit at run
    split at run
    · exact next rfl run
    · refine next ?_ run
      split
      · exact surveyOver_power _ _ _
      · rfl
  | secondPulse | settingCompletionReport | statusReport | tuneComplete | detectorConversion =>
    exact next (event_power _ _) run
  | moveTimeout | settingTimeout | tuneTimeout | rfUpTimeout | rfDownTimeout | recycleTimerExpiry | cleanRunExpiry =>
    exact next (expiry_power _ _) run
  | _ => cases is

end Events

theorem hallEvent_completes {i : Instr} (s : State) (is : isHallEvent i = true) :
    ∃ t, exec i s = .next t ∧ KeepsQueue s t := by
  obtain ⟨t, run, leaves⟩ := hallEvent_leaves i s is
  exact ⟨t, run, leaves.pending, hallEvent_power is run⟩

/-! ## Start-ups, halts and the loss of supply leave the queue (R176, R177) -/

theorem startUp_pending (i : StartInputs) (s : State) : (startUp i s).pending = s.pending := by
  unfold startUp
  split <;> rfl

theorem supplyEvent_completes {i : Instr} (s : State) (is : isSupplyEvent i = true) :
    ∃ t, exec i s = .next t ∧ t.pending = s.pending := by
  cases i with
  | powerUp inputs | restartReleased inputs =>
    refine ⟨_, rfl, ?_⟩
    split
    · exact startUp_pending inputs s
    · rfl
  | restartHeld5s | restartAsserted | mainSupplyLoss =>
    refine ⟨_, rfl, ?_⟩
    split <;> rfl
  | _ => cases is

/-! ## Every command -/

/-- A command is a frame that asks for an answer, an event of the hall, or one of the link unit, unless it is of the
supply or the restart input. -/
theorem exec_keepsQueue {i : Instr} (s : State) (supply : isSupplyEvent i = false) :
    ∃ t, exec i s = .next t ∧ KeepsQueue s t := by
  cases framed : (frameOf i).isSome with
  | true => exact frame_completes s framed
  | false =>
    cases hall : isHallEvent i with
    | true => exact hallEvent_completes s hall
    | false => exact linkEvent_completes s (by rw [framed, hall, supply]; rfl)

/-- Settles O3: a supply event leaves the queue, and every other command also whether the part runs. -/
theorem everyCommandCompletes : Obligations.EveryCommandCompletes := by
  unfold Obligations.EveryCommandCompletes
  intro i s
  cases supply : isSupplyEvent i with
  | true =>
    obtain ⟨t, run, pending⟩ := supplyEvent_completes s supply
    exact ⟨t, run, pending, nofun⟩
  | false =>
    obtain ⟨t, run, kept⟩ := exec_keepsQueue s supply
    exact ⟨t, run, kept.pending, fun _ => kept.power⟩

end Sys2Proof.Machine
end
